-- ==== Sys2Proof/Word.lean ====
section
/-! DEFINITION. The words that travel and count in the WV-220: bytes, 16-bit check words, 24-bit tags and the
32-bit clock. Everything else the manual treats as a number in a range, and the model keeps it as `Nat` or `Int`. -/

namespace Sys2Proof

/-- One byte of a frame (spec/11, R169). -/
abbrev Byte := BitVec 8

/-- A check word or an item value, two bytes (R2, R169). -/
abbrev Word16 := BitVec 16

/-- A machine clock value: ticks of 10 ms, 32 bits, wrapping (R167). -/
abbrev Clock := BitVec 32

end Sys2Proof
end

