-- ==== Sys2Proof/Syntax.lean ====
section
/-! DEFINITION. The commands of the WV-220: one constructor of `Instr` for each row of spec/opcode_table.json, and
the operand types they carry. -/

namespace Sys2Proof

/-- The two serial ports (R169). -/
inductive Port where
  | cab
  | fleet
  deriving DecidableEq, Repr

/-- The two truck positions (R96). -/
inductive Side where
  | left
  | right
  deriving DecidableEq, Repr

/-- The eight measuring duties, in the order of R5. -/
inductive Role where
  | head
  | rod
  | boom
  | bucket
  | pitch
  | steer
  | tagL
  | tagR
  deriving DecidableEq, Repr

/-- What a node says it is (R1). -/
inductive NodeType where
  | pressure
  | angle
  | incline
  | tag
  deriving DecidableEq, Repr

/-- What a node says of itself (R1). -/
inductive NodeStatus where
  | ok
  | overrange
  | fault
  deriving DecidableEq, Repr

/-- The part of an answer frame that every kind of transaction shares (R1): how many microseconds after the command
frame it completed, whether its check byte agreed, the address it carries, the node's type and status. -/
structure NodeAnswer where
  micros  : Nat
  checkOk : Bool
  address : Fin 16
  type    : NodeType
  status  : NodeStatus
  deriving DecidableEq, Repr

/-- A node's answer to READ_VALUE (R2): a signed value for PRESSURE, ANGLE and INCLINE nodes, a read-held marker
and a tag for a TAG node. -/
structure ReadAnswer where
  node  : NodeAnswer
  value : Int
  held  : Bool
  tag   : BitVec 24
  deriving DecidableEq, Repr

/-- A node's answer to NODE_READ (R2). -/
structure ItemAnswer where
  node  : NodeAnswer
  value : Word16
  deriving DecidableEq, Repr

/-- A complete request frame (R169), from its tag to its check word. The sync byte and the length are determined by
the rest: the length counts the tag, the kind and the payload. -/
structure Frame where
  tag     : Byte
  kind    : Byte
  payload : List Byte
  check   : Word16
  deriving DecidableEq, Repr

/-- How many bytes a port sends (R171, R172). -/
structure Sending where
  port  : Port
  bytes : Nat
  deriving DecidableEq, Repr

/-- Why an assembler ends a partial frame: the length it gathered (R170), or a byte with its stop bit low (R172). -/
inductive DiscardCause where
  | length (n : Word16)
  | brokenByte
  deriving DecidableEq, Repr

/-- The commands, in the order of spec/opcode_table.json. A request row carries the port whose queue it is granted
from; a row whose grant reads the calibration strap also carries the level of CALEN then (R77, R181). -/
inductive Instr where
  /-- POWER_ON_RESET (R165) -/
  | powerOnReset
  /-- POWER_COLLAPSE (R165) -/
  | powerCollapse
  /-- PIN_RESET (R166) -/
  | pinReset
  /-- PIN_RESET_RELEASE (R166) -/
  | pinResetRelease
  /-- SWEEP_START (R11) -/
  | sweepStart
  /-- READ_VALUE (R7): the role whose transaction ends, and the answer frame, if one came -/
  | readValue (role : Role) (reply : Option ReadAnswer)
  /-- PROBE (R3) -/
  | probe (reply : Option NodeAnswer)
  /-- NODE_READ (R15) -/
  | nodeRead (reply : Option ItemAnswer)
  /-- NODE_WRITE (R15) -/
  | nodeWrite (reply : Option NodeAnswer)
  /-- TAG_EVENT (R104) -/
  | tagEvent
  /-- TRUCK_DUMP (R108) -/
  | truckDump
  /-- PILE_DUMP (R36) -/
  | pileDump
  /-- REWEIGH (R31) -/
  | reweigh
  /-- LOST_CYCLE (R23) -/
  | lostCycle
  /-- RESIDUE (R112) -/
  | residue
  /-- ZERO (R43) -/
  | zero
  /-- CAPTURE (R82) -/
  | capture
  /-- FRAME_ARRIVAL (R173) -/
  | frameArrival (port : Port) (frame : Frame)
  /-- FRAME_DISCARD (R170) -/
  | frameDiscard (port : Port) (cause : DiscardCause)
  /-- CAB_CS_N_RISE (R171) -/
  | cabCsNRise
  /-- FRAME_GAP_TIMEOUT (R172) -/
  | frameGapTimeout
  /-- ANSWER_SENT (R174): the port sends so many bytes; those that reach an answer's last check byte send it. The
  table has no row for one byte (R171; notes/assumptions/40.md) -/
  | answerSent (sending : Sending)
  /-- VIEW_LIVE (R47) -/
  | viewLive (port : Port)
  /-- VIEW_BAY (R118) -/
  | viewBay (port : Port)
  /-- VIEW_TRUCK (R138) -/
  | viewTruck (port : Port)
  /-- VIEW_MATERIAL (R143) -/
  | viewMaterial (port : Port)
  /-- VIEW_COUNTERS (R158) -/
  | viewCounters (port : Port)
  /-- NEXT_RECORD (R151) -/
  | nextRecord (port : Port)
  /-- VIEW_NODES (R17) -/
  | viewNodes (port : Port)
  /-- VIEW_CURVE (R93) -/
  | viewCurve (port : Port)
  /-- VIEW_PROFILE (R94) -/
  | viewProfile (port : Port)
  /-- VIEW_PORT (R180) -/
  | viewPort (port : Port)
  /-- VIEW_PART (R181) -/
  | viewPart (port : Port) (calen : Bool)
  /-- COLLECT_NOTICES (R183) -/
  | collectNotices (port : Port)
  /-- SET_NOTICES (R184) -/
  | setNotices (port : Port)
  /-- TAKE_SNAPSHOT (R187) -/
  | takeSnapshot (port : Port)
  /-- SELECT_BAY (R102) -/
  | selectBay (port : Port)
  /-- ASSIGN_TRUCK (R107) -/
  | assignTruck (port : Port)
  /-- CLOSE_LOAD (R115) -/
  | closeLoad (port : Port)
  /-- SET_LOAD_TARGET (R116) -/
  | setLoadTarget (port : Port)
  /-- ZERO_BUCKET (R40) -/
  | zeroBucket (port : Port)
  /-- CANCEL_ZERO (R41) -/
  | cancelZero (port : Port)
  /-- END_SHIFT (R156) -/
  | endShift (port : Port)
  /-- RESTORE_SNAPSHOT (R188) -/
  | restoreSnapshot (port : Port)
  /-- WRITE_TRUCK (R134) -/
  | writeTruck (port : Port)
  /-- DROP_TRUCK (R137) -/
  | dropTruck (port : Port)
  /-- WRITE_MATERIAL (R142) -/
  | writeMaterial (port : Port)
  /-- SET_TIME (R168) -/
  | setTime (port : Port)
  /-- NODE_ACCESS (R14) -/
  | nodeAccess (port : Port)
  /-- NODE_RESULT (R16) -/
  | nodeResult (port : Port)
  /-- STAGE_PIECE (R78) -/
  | stagePiece (port : Port) (calen : Bool)
  /-- STAGE_FILL (R79) -/
  | stageFill (port : Port) (calen : Bool)
  /-- START_CAPTURE (R80) -/
  | startCapture (port : Port) (calen : Bool)
  /-- ABORT_CAPTURE (R86) -/
  | abortCapture (port : Port) (calen : Bool)
  /-- INSTALL_CURVE (R87) -/
  | installCurve (port : Port) (calen : Bool)
  /-- SET_PROFILE (R90) -/
  | setProfile (port : Port) (calen : Bool)
  /-- SUPPLY_MEASUREMENT (R161): the voltage measured, in steps of 0.1 V -/
  | supplyMeasurement (vsys : Nat)
  /-- CLOCK_TICK (R167) -/
  | clockTick
  /-- PACE_TIMER_EXPIRY (R185) -/
  | paceTimerExpiry (port : Port)
  /-- SYNC_BYTE_RECEIVED (R170) -/
  | syncByteReceived (port : Port)
  /-- CAB_CS_N_FALL (R171) -/
  | cabCsNFall
  deriving DecidableEq, Repr

end Sys2Proof
end

