-- ==== Sys2Proof/Machine/Blocks.lean ====
section
/-! DEFINITION. The types of what each block of the WV-220 holds, chapter by chapter. The docstrings cite the rule
that gives each field. -/

namespace Sys2Proof.Machine

/-! ### Things of which there are two or eight -/

/-- One thing for each bay. -/
structure Sides (α : Type) where
  left  : α
  right : α
  deriving DecidableEq, Repr

/-- One thing for each port. -/
structure Ports (α : Type) where
  cab   : α
  fleet : α
  deriving DecidableEq, Repr

/-- One thing for each role of R5. -/
structure Roles (α : Type) where
  head   : α
  rod    : α
  boom   : α
  bucket : α
  pitch  : α
  steer  : α
  tagL   : α
  tagR   : α
  deriving DecidableEq, Repr

/-- The thing of one bay. -/
def Sides.get {α : Type} (x : Sides α) : Side → α
  | .left => x.left
  | .right => x.right

/-- The pair with the thing of one bay changed. -/
def Sides.modify {α : Type} (x : Sides α) (d : Side) (f : α → α) : Sides α :=
  match d with
  | .left => { x with left := f x.left }
  | .right => { x with right := f x.right }

/-- The thing of one port. -/
def Ports.get {α : Type} (x : Ports α) : Port → α
  | .cab => x.cab
  | .fleet => x.fleet

/-- The pair with the thing of one port changed. -/
def Ports.modify {α : Type} (x : Ports α) (p : Port) (f : α → α) : Ports α :=
  match p with
  | .cab => { x with cab := f x.cab }
  | .fleet => { x with fleet := f x.fleet }

/-- The thing of one role. -/
def Roles.get {α : Type} (x : Roles α) : Role → α
  | .head => x.head
  | .rod => x.rod
  | .boom => x.boom
  | .bucket => x.bucket
  | .pitch => x.pitch
  | .steer => x.steer
  | .tagL => x.tagL
  | .tagR => x.tagR

/-- The eight with the thing of one role changed. -/
def Roles.modify {α : Type} (x : Roles α) (r : Role) (f : α → α) : Roles α :=
  match r with
  | .head => { x with head := f x.head }
  | .rod => { x with rod := f x.rod }
  | .boom => { x with boom := f x.boom }
  | .bucket => { x with bucket := f x.bucket }
  | .pitch => { x with pitch := f x.pitch }
  | .steer => { x with steer := f x.steer }
  | .tagL => { x with tagL := f x.tagL }
  | .tagR => { x with tagR := f x.tagR }

/-! ### Power and pins (chapter 8) -/

/-- Why the part was last reset (R166). -/
inductive ResetCause where
  | powerOn
  | pin
  deriving DecidableEq, Repr

/-- Without power; held in reset, with the reset that will end (R165, R166); or at work. -/
inductive Power where
  | off
  | held (cause : ResetCause)
  | running
  deriving DecidableEq, Repr

/-- The input pins that hold a level (00, pin list). -/
structure Pins where
  /-- RESET_N is low -/
  resetLow : Bool
  /-- CALEN was high when last read (R77) -/
  calen    : Bool
  /-- CAB_CS_N is low: a chip-select period is open (R171) -/
  csLow    : Bool
  deriving DecidableEq, Repr

/-- The reset record of R166. -/
structure ResetRecord where
  cause : ResetCause
  clock : Clock
  deriving DecidableEq, Repr

/-! ### Sensor link controller (chapter 1) -/

/-- The state of a role (R5). -/
inductive RoleState where
  | unbound
  | ok
  | hold
  | fault
  deriving DecidableEq, Repr

/-- What the link controller holds for a role (R5): the address it reads it at, or unbound, with state and counts. -/
structure RoleRec where
  bound      : Option (Fin 16)
  state      : RoleState
  misses     : Nat
  recoveries : Nat
  lastGood   : Option Int
  deriving DecidableEq, Repr

/-- One entry of the presence map (R3). -/
structure Presence where
  present : Bool
  type    : Option NodeType
  missed  : Nat
  deriving DecidableEq, Repr

/-- The direction of a node access (R14). -/
inductive Direction where
  | read
  | write
  deriving DecidableEq, Repr

/-- The transaction a node-access slot is armed with (R14). -/
structure Access where
  address : Fin 16
  item    : Fin 64
  dir     : Direction
  value   : Word16
  deriving DecidableEq, Repr

/-- The result of a served slot (R15): the value is there for a read. -/
inductive AccessResult where
  | ack (status : NodeStatus) (type : NodeType) (value : Option Word16)
  | noack
  deriving DecidableEq, Repr

/-- A node-access slot (R14). -/
inductive Slot where
  | free
  | armed (a : Access)
  | done (a : Access) (r : AccessResult)
  deriving DecidableEq, Repr

/-- A tag read on one side (R13). -/
structure TagEvent where
  side : Side
  tag  : Nat
  deriving DecidableEq, Repr

/-- A sweep in progress (R11, R12): the clock at its start; the roles still to be read; the slot under service once
the probe has ended; the over-range markers and tags it has gathered. -/
structure Sweep where
  start  : Clock
  toRead : List Role
  slot   : Option (Fin 2)
  marked : Roles Bool
  tags   : List TagEvent
  deriving DecidableEq, Repr

/-- The sensor link controller. -/
structure Link where
  presence   : Vector Presence 16
  probePtr   : Fin 16
  roles      : Roles RoleRec
  slots      : Vector Slot 2
  lastServed : Fin 2
  zeroTags   : Nat
  period     : Nat
  sweep      : Option Sweep
  deriving DecidableEq, Repr

/-- One measurement role in a sweep record (R12). -/
structure RoleReading where
  state : RoleState
  value : Option Int
  marked : Bool
  deriving DecidableEq, Repr

/-- A sweep record (R12). -/
structure SweepRecord where
  time   : Clock
  head   : RoleReading
  rod    : RoleReading
  boom   : RoleReading
  bucket : RoleReading
  pitch  : RoleReading
  steer  : RoleReading
  deriving DecidableEq, Repr

/-! ### Cycle tracker (chapter 2) -/

/-- Where the machine is in its cycle (R21). -/
inductive CycleState where
  | idle
  | dig
  | lift
  | weigh
  | carry
  /-- RETURN -/
  | ret
  | check
  deriving DecidableEq, Repr

/-- The nine quality flags of R64. -/
structure Flags where
  unweighed : Bool
  rough     : Bool
  sat       : Bool
  nopitch   : Bool
  slow      : Bool
  reweighed : Bool
  uncal     : Bool
  merged    : Bool
  residue   : Bool
  deriving DecidableEq, Repr

/-- A window result (R30, R64). -/
structure WindowResult where
  net   : Nat
  fill  : Nat
  flags : Flags
  deriving DecidableEq, Repr

/-- A zero result and its verdict (R42). -/
structure ZeroResult where
  mean     : Int
  accepted : Bool
  deriving DecidableEq, Repr

/-- A truck-dump reference (R35). -/
structure DumpRef where
  side  : Side
  load  : Nat
  index : Nat
  deriving DecidableEq, Repr

/-- What a capture is armed with (R80). -/
inductive CaptureKind where
  | empty
  | load (mass : Nat)
  deriving DecidableEq, Repr

/-- The bay choice of a truck dump (R34). -/
inductive BayChoice where
  | side (d : Side)
  | active
  deriving DecidableEq, Repr

/-- The cycle tracker (R21). `prevRecord` is what R45 compares a record with; `dumpNo` and `returnOf` are the
model's own way of saying "still in the RETURN that followed this dump" (R35; notes/assumptions/20.md). -/
structure Tracker where
  cycle          : CycleState
  prevBoom       : Option Int
  timer          : Nat
  held           : Option WindowResult
  residuePending : Bool
  dumpRef        : Option DumpRef
  zeroPending    : Bool
  capture        : Option CaptureKind
  overload       : Sides Bool
  lastZero       : Option ZeroResult
  prevRecord     : Option SweepRecord
  dumpNo         : Nat
  returnOf       : Option Nat
  deriving DecidableEq, Repr

/-! ### Weighing unit (chapter 3) -/

/-- The window accumulator (R52). -/
structure Accumulator where
  sum       : Int
  count     : Nat
  min       : Option Int
  max       : Option Int
  skipped   : Nat
  sat       : Bool
  nopitch   : Bool
  slow      : Bool
  abandoned : Bool
  deriving DecidableEq, Repr

/-- One capture bin accumulator (R81). -/
structure CaptureBin where
  sum   : Int
  count : Nat
  deriving DecidableEq, Repr

/-- The weighing unit. -/
structure Weigh where
  acc      : Accumulator
  bins     : Vector CaptureBin 16
  zeroTrim : Int
  deriving DecidableEq, Repr

/-! ### Calibration store (chapter 4) -/

/-- A bin of the active curve (R74). -/
structure CurveBin where
  empty : Int
  span  : Nat
  deriving DecidableEq, Repr

/-- A bin of the staging curve (R76). -/
structure StagingBin where
  empty  : Int
  span   : Nat
  eValid : Bool
  sValid : Bool
  deriving DecidableEq, Repr

/-- The bay mode (field 15 of R89). -/
inductive BayMode where
  | double
  | single
  deriving DecidableEq, Repr

/-- The machine profile, in the order of R89. -/
structure Profile where
  sweepPeriod      : Nat
  headArea         : Nat
  rodArea          : Nat
  digAngle         : Int
  loAngle          : Int
  hiAngle          : Int
  truckAngle       : Int
  dumpAngle        : Int
  rateMin          : Nat
  rateMax          : Nat
  minSamples       : Nat
  spreadLimit      : Nat
  residueThreshold : Nat
  deadband         : Nat
  mode             : BayMode
  volume           : Nat
  defTarget        : Nat
  defMax           : Nat
  defMaterial      : Fin 16
  origin           : Int
  step             : Nat
  warnLevel        : Fin 4
  binding          : Roles (Option (Fin 16))
  deriving DecidableEq, Repr

/-- What the last capture report says of one bin (R84): captured or failed, its count, its mean force when the
count was 2 or more, and for LOAD its rise. -/
structure BinReport where
  captured : Bool
  count    : Nat
  mean     : Option Int
  rise     : Option Int
  deriving DecidableEq, Repr

/-- The last capture report (R84): no bins when the result is aborted. -/
structure CaptureReport where
  kind : CaptureKind
  bins : Option (Vector BinReport 16)
  deriving DecidableEq, Repr

/-- The calibration store. -/
structure Cal where
  active     : Vector CurveBin 16
  generation : Nat
  staging    : Vector StagingBin 16
  report     : Option CaptureReport
  profile    : Profile
  deriving DecidableEq, Repr

/-! ### Bay manager (chapter 5) -/

/-- The state of a bay (R97). -/
inductive BayState where
  | empty
  | ready
  | loading
  | topped
  /-- OVER -/
  | overMax
  deriving DecidableEq, Repr

/-- A pass entry (R98). -/
structure Pass where
  index      : Nat
  net        : Nat
  fill       : Nat
  flags      : Flags
  cycleTime  : Nat
  commitTime : Clock
  residue    : Option Nat
  deriving DecidableEq, Repr

/-- A truck table entry's name: its set and way (R126). -/
structure TruckRef where
  set : Fin 8
  way : Fin 4
  deriving DecidableEq, Repr

/-- A bay record (R96). -/
structure Bay where
  state    : BayState
  load     : Nat
  tag      : Option Nat
  ref      : Option TruckRef
  material : Fin 16
  target   : Nat
  max      : Nat
  opened   : Clock
  passes   : List Pass
  total    : Nat
  deriving DecidableEq, Repr

/-- The last residue report (R112, R113). -/
structure ResidueReport where
  residue : Nat
  ref     : DumpRef
  amount  : Nat
  applied : Bool
  deriving DecidableEq, Repr

/-- The bay manager (R96). -/
structure Bays where
  bay           : Sides Bay
  active        : Side
  nextLoad      : Nat
  crossReads    : Nat
  residueReport : Option ResidueReport
  deriving DecidableEq, Repr

/-! ### Truck table and material table (chapter 6) -/

/-- A truck table entry (R125). -/
structure TruckEntry where
  valid       : Bool
  pinned      : Bool
  tag         : Nat
  target      : Nat
  max         : Nat
  material    : Fin 16
  trips       : Nat
  lastPayload : Nat
  lastSeen    : Option Clock
  deriving DecidableEq, Repr

/-- A set of four ways with its three replacement bits (R126, R127). -/
structure TruckSet where
  ways  : Vector TruckEntry 4
  root  : Bool
  pairA : Bool
  pairB : Bool
  deriving DecidableEq, Repr

/-- A material table entry (R141): the label is eight characters. -/
structure Material where
  density : Nat
  label   : List Byte
  deriving DecidableEq, Repr

/-! ### Production log and shift counters (chapter 7) -/

/-- Why a load was closed (R114). -/
inductive CloseReason where
  | close (port : Port)
  | newTruck
  deriving DecidableEq, Repr

/-- A LOAD record (R146): the closing port stands in the reason, which carries it for CLOSE only; the pass count is
the length of the list of nets. -/
structure LoadRecord where
  load    : Nat
  side    : Side
  tag     : Option Nat
  material : Fin 16
  target  : Nat
  max     : Nat
  total   : Nat
  nets    : List Nat
  quality : Flags
  reason  : CloseReason
  opened  : Clock
  closed  : Clock
  shift   : Nat
  deriving DecidableEq, Repr

/-- The ten shift counters (R153), in the order of the SHIFT record (R197). -/
structure Counters where
  cycles       : Nat
  truckPasses  : Nat
  pileDumps    : Nat
  payloadKg    : Nat
  cycleTimeSum : Nat
  reweighs     : Nat
  residues     : Nat
  unweighed    : Nat
  lostCycles   : Nat
  loadsClosed  : Nat
  deriving DecidableEq, Repr

/-- A SHIFT record (R147). -/
structure ShiftRecord where
  number   : Nat
  start    : Clock
  ended    : Clock
  port     : Port
  counters : Counters
  minVsys  : Nat
  deriving DecidableEq, Repr

/-- A record of the production log (R145). -/
inductive LogRecord where
  | load (r : LoadRecord)
  | shift (r : ShiftRecord)
  deriving DecidableEq, Repr

/-- The production log (R145). -/
structure Log where
  records : List LogRecord
  unread  : Ports Nat
  missed  : Ports Nat
  deriving DecidableEq, Repr

/-- The shift counters block (R153). -/
structure Shift where
  number   : Nat
  start    : Clock
  minVsys  : Nat
  counters : Counters
  deriving DecidableEq, Repr

/-! ### Supply monitor (chapter 8) -/

/-- The state of the supply monitor (R162). -/
inductive SupplyState where
  | normal
  | low
  deriving DecidableEq, Repr

/-- The supply monitor (R161, R162, R164). -/
structure Supply where
  state     : SupplyState
  lowCount  : Nat
  highCount : Nat
  lastVsys  : Nat
  minSince  : Nat
  deriving DecidableEq, Repr

/-! ### Arbiter, ports and pacers (chapter 9) -/

/-- What waits at the arbiter from the tracker (R46) and the sensor link (R13), with what it carries. A capture
outcome without bins is marked aborted (R45). -/
inductive Item where
  | truckDump (result : WindowResult) (cycleTime : Nat) (choice : BayChoice) (dump : Nat)
  | pileDump (cycleTime : Nat)
  | reweigh
  | residue (r : Nat) (ref : DumpRef)
  | lostCycle
  | zero (result : ZeroResult)
  | capture (kind : CaptureKind) (bins : Option (Vector CaptureBin 16))
  | tag (e : TagEvent)
  deriving DecidableEq, Repr

/-- The 34 request kinds (R178). -/
inductive ReqKind where
  | viewLive
  | viewBay
  | viewTruck
  | viewMaterial
  | viewCounters
  | nextRecord
  | viewNodes
  | viewCurve
  | viewProfile
  | viewPort
  | viewPart
  | collectNotices
  | setNotices
  | takeSnapshot
  | selectBay
  | assignTruck
  | closeLoad
  | setLoadTarget
  | zeroBucket
  | cancelZero
  | endShift
  | restoreSnapshot
  | writeTruck
  | dropTruck
  | writeMaterial
  | setTime
  | nodeAccess
  | nodeResult
  | stagePiece
  | stageFill
  | startCapture
  | abortCapture
  | installCurve
  | setProfile
  deriving DecidableEq, Repr

/-- The four access classes (R178). -/
inductive AccessClass where
  | view
  | operate
  | fleet
  | calibrate
  deriving DecidableEq, Repr

/-- The eleven statuses (R179). -/
inductive Status where
  | ok
  | accepted
  | busy
  | denied
  | range
  | stale
  | state
  | full
  | invalid
  | unknown
  | frame
  deriving DecidableEq, Repr

/-- A request that has passed its arrival checks (R173). -/
structure Request where
  tag     : Byte
  kind    : ReqKind
  payload : List Byte
  deriving DecidableEq, Repr

/-- What a granted request answers: a status and a payload, whose first byte is the detail for a refusal (R179). -/
structure Reply where
  status  : Status
  payload : List Byte
  deriving DecidableEq, Repr

/-- A formed answer (R169, R174): the tag of the frame it answers, with its reply. -/
structure Answer where
  tag   : Byte
  reply : Reply
  deriving DecidableEq, Repr

/-- The receive assembler (R170). One that assembles holds how many bytes behind the sync it has gathered by commands
that do not end the frame (R171; notes/assumptions/21.md). -/
inductive Assembler where
  | hunting
  | assembling (gathered : Nat)
  deriving DecidableEq, Repr

/-- The twelve notice kinds, in the order of R196. -/
inductive NoticeKind where
  | pass
  | pile
  | bay
  | overload
  | residue
  | logged
  | shift
  | sensor
  | supply
  | zero
  | capture
  | node
  deriving DecidableEq, Repr

/-- A notice as a block raises it (R182): some kinds name a bay, SENSOR names a role. -/
inductive Notice where
  | pass (d : Side)
  | pile
  | bay (d : Side)
  | overload (d : Side)
  | residue
  | logged
  | shift
  | sensor (r : Role)
  | supply
  | zero
  | capture
  | node
  deriving DecidableEq, Repr

/-- A notice pacer (R182). A running pace timer is held with the interval it was started for
(notes/assumptions/26.md). -/
structure Pacer where
  pending      : Vector Nat 12
  passBays     : Sides Bool
  bayBays      : Sides Bool
  overloadBays : Sides Bool
  sensorRoles  : Roles Bool
  enables      : BitVec 12
  interval     : Nat
  timer        : Option Nat
  line         : Bool
  deriving DecidableEq, Repr

/-- A port (R170, R171, R173, R174) with its pacer. `sent` is how many bytes of the oldest answer have gone out. `out` is
the model's own: the bytes that the last command to move bytes on the port sent, fillers among them
(notes/assumptions/40.md). -/
structure PortBlock where
  assembler : Assembler
  queue     : List Request
  answers   : List Answer
  sent      : Nat
  out       : List Byte
  discarded : Nat
  pacer     : Pacer
  deriving DecidableEq, Repr

/-- The tally arbiter (R175, R177). -/
structure Arbiter where
  items      : List Item
  lastServed : Port
  fresh      : Bool
  deriving DecidableEq, Repr

end Sys2Proof.Machine
end

