-- ==== Sys2Proof/Machine/Operands.lean ====
section
/-! DEFINITION. How figures travel as bytes: the byte order of chapter 11, the check word of R169, the numbers of
the request kinds (R194), of statuses, states and notice kinds (R196), and of the choices R195 numbers. -/

namespace Sys2Proof.Machine

/-! ### Numbers and bytes -/

/-- `n` bytes of `v`, most significant first (chapter 11). -/
def be : Nat → Nat → List Byte
  | 0, _ => []
  | n + 1, v => BitVec.ofNat 8 (v / 256 ^ n) :: be n v

/-- `n` bytes of a signed figure in two's complement, most significant first. -/
def beInt (n : Nat) (v : Int) : List Byte := be n (v % (256 ^ n : Nat)).toNat

/-- The number that a run of bytes spells, most significant first. -/
def fromBe (bs : List Byte) : Nat := bs.foldl (fun a b => a * 256 + b.toNat) 0

/-- The signed number that a run of bytes spells. -/
def fromBeInt (bs : List Byte) : Int :=
  if 2 * fromBe bs < 256 ^ bs.length then fromBe bs else (fromBe bs : Int) - (256 ^ bs.length : Nat)

/-- `len` bytes of a payload from an offset. -/
def slice (bs : List Byte) (off len : Nat) : List Byte := (bs.drop off).take len

/-- The figure in `len` bytes at an offset of a payload. -/
def natAt (bs : List Byte) (off len : Nat) : Nat := fromBe (slice bs off len)

/-- The signed figure in `len` bytes at an offset of a payload. -/
def intAt (bs : List Byte) (off len : Nat) : Int := fromBeInt (slice bs off len)

/-- A yes-or-no figure: one byte, 1 for yes (R195). -/
def boolByte (b : Bool) : List Byte := [if b then 1 else 0]

/-- A figure that may be absent: one byte, 1 when present, then the figure (R195). -/
def optional {α : Type} (x : Option α) (f : α → List Byte) : List Byte :=
  match x with
  | none => [0]
  | some a => 1 :: f a

/-- A list whose length varies: a count byte, then its entries (R195). -/
def counted {α : Type} (xs : List α) (f : α → List Byte) : List Byte :=
  BitVec.ofNat 8 xs.length :: xs.flatMap f

/-! ### The check word -/

/-- One bit of the CRC-16 of R169: the polynomial x^16 + x^12 + x^5 + 1, most significant bit first. -/
def crcBit (c : Word16) : Word16 := if c.msb then (c <<< 1) ^^^ 0x1021 else c <<< 1

/-- One byte of the CRC-16. -/
def crcByte (c : Word16) (b : Byte) : Word16 :=
  crcBit (crcBit (crcBit (crcBit (crcBit (crcBit (crcBit (crcBit (c ^^^ (b.setWidth 16 <<< 8)))))))))

/-- The CRC-16 of R169: initial value 0xFFFF, no reflection, no inversion. -/
def crc16 (bs : List Byte) : Word16 := bs.foldl crcByte 0xFFFF

/-- The bytes a frame's check word covers: length, tag, kind or status, payload (R169). -/
def coveredBytes (tag kind : Byte) (payload : List Byte) : List Byte :=
  be 2 (payload.length + 2) ++ tag :: kind :: payload

end Sys2Proof.Machine

namespace Sys2Proof

/-- The check word of a frame agrees with its contents (R173, step 1). -/
def Frame.checkAgrees (f : Frame) : Bool := f.check == Machine.crc16 (Machine.coveredBytes f.tag f.kind f.payload)

end Sys2Proof

namespace Sys2Proof.Machine

/-! ### Numbers of choices -/

end Sys2Proof.Machine

namespace Sys2Proof

/-- Bay 0 LEFT, 1 RIGHT (R194). -/
def Side.code : Side → Nat
  | .left => 0
  | .right => 1

/-- Port 0 Cab, 1 Fleet (R197, closing port). -/
def Port.code : Port → Nat
  | .cab => 0
  | .fleet => 1

/-- Node statuses as R1 names them (R195; DEDUCED, notes/assumptions/16.md). -/
def NodeStatus.code : NodeStatus → Nat
  | .ok => 0
  | .overrange => 1
  | .fault => 2

end Sys2Proof

namespace Sys2Proof.Machine

/-- The bay a byte names, if any (R194). -/
def sideOf : Nat → Option Side
  | 0 => some .left
  | 1 => some .right
  | _ => none

/-- Tracker states (R196). -/
def CycleState.code : CycleState → Nat
  | .idle => 0
  | .dig => 1
  | .lift => 2
  | .weigh => 3
  | .carry => 4
  | .ret => 5
  | .check => 6

/-- Slot states (R196). -/
def Slot.code : Slot → Nat
  | .free => 0
  | .armed _ => 1
  | .done _ _ => 2

/-- Bay states (R196). -/
def BayState.code : BayState → Nat
  | .empty => 0
  | .ready => 1
  | .loading => 2
  | .topped => 3
  | .overMax => 4

/-- The bay state a byte names, if any (R196). -/
def bayStateOf : Nat → Option BayState
  | 0 => some .empty
  | 1 => some .ready
  | 2 => some .loading
  | 3 => some .topped
  | 4 => some .overMax
  | _ => none

/-- Notice kinds (R196). -/
def NoticeKind.num : NoticeKind → Fin 12
  | .pass => 0
  | .pile => 1
  | .bay => 2
  | .overload => 3
  | .residue => 4
  | .logged => 5
  | .shift => 6
  | .sensor => 7
  | .supply => 8
  | .zero => 9
  | .capture => 10
  | .node => 11

/-- Statuses (R196). -/
def Status.code : Status → Byte
  | .ok => 0x00
  | .accepted => 0x01
  | .busy => 0x10
  | .denied => 0x11
  | .range => 0x12
  | .stale => 0x13
  | .state => 0x14
  | .full => 0x15
  | .invalid => 0x16
  | .unknown => 0x17
  | .frame => 0x18

/-- Role states, numbered as R5 first names them (R195; DEDUCED, notes/assumptions/16.md). -/
def RoleState.code : RoleState → Nat
  | .unbound => 0
  | .ok => 1
  | .hold => 2
  | .fault => 3

/-- Node types as R1 and R3 name them, with "none" last (R195; DEDUCED, notes/assumptions/16.md). -/
def nodeTypeCode : Option NodeType → Nat
  | some .pressure => 0
  | some .angle => 1
  | some .incline => 2
  | some .tag => 3
  | none => 4

/-- Direction 0 read, 1 write (R194). -/
def Direction.code : Direction → Nat
  | .read => 0
  | .write => 1

/-- Bay mode 0 DOUBLE, 1 SINGLE (R194). -/
def BayMode.code : BayMode → Nat
  | .double => 0
  | .single => 1

/-- Capture kind 0 EMPTY, 1 LOAD (R194). -/
def CaptureKind.code : CaptureKind → Nat
  | .empty => 0
  | .load _ => 1

/-- Supply states as R162 names them (R195; DEDUCED, notes/assumptions/16.md). -/
def SupplyState.code : SupplyState → Nat
  | .normal => 0
  | .low => 1

/-- Reset causes as R166 names them (R195; DEDUCED, notes/assumptions/16.md). -/
def ResetCause.code : ResetCause → Nat
  | .powerOn => 0
  | .pin => 1

/-- A binding: the address, or 0xFF for unbound (R194). -/
def bindingCode : Option (Fin 16) → Nat
  | some a => a.val
  | none => 0xFF

/-- A set of bays: bit 0 LEFT, bit 1 RIGHT (R195). -/
def Sides.setCode (x : Sides Bool) : Nat := (if x.left then 1 else 0) + (if x.right then 2 else 0)

/-- A set of roles: one bit for each, in the order of R5 (R195). -/
def Roles.setCode (x : Roles Bool) : Nat :=
  (if x.head then 1 else 0) + (if x.rod then 2 else 0) + (if x.boom then 4 else 0) + (if x.bucket then 8 else 0) +
    (if x.pitch then 16 else 0) + (if x.steer then 32 else 0) + (if x.tagL then 64 else 0) +
      (if x.tagR then 128 else 0)

/-! ### Requests -/

/-- The kind bytes of R194. -/
def ReqKind.code : ReqKind → Byte
  | .viewLive => 0x01
  | .viewBay => 0x02
  | .viewTruck => 0x03
  | .viewMaterial => 0x04
  | .viewCounters => 0x05
  | .nextRecord => 0x06
  | .viewNodes => 0x07
  | .viewCurve => 0x08
  | .viewProfile => 0x09
  | .viewPort => 0x0A
  | .viewPart => 0x0B
  | .collectNotices => 0x0C
  | .setNotices => 0x0D
  | .takeSnapshot => 0x0E
  | .selectBay => 0x20
  | .assignTruck => 0x21
  | .closeLoad => 0x22
  | .setLoadTarget => 0x23
  | .zeroBucket => 0x24
  | .cancelZero => 0x25
  | .endShift => 0x26
  | .restoreSnapshot => 0x27
  | .writeTruck => 0x40
  | .dropTruck => 0x41
  | .writeMaterial => 0x42
  | .setTime => 0x43
  | .nodeAccess => 0x44
  | .nodeResult => 0x45
  | .stagePiece => 0x60
  | .stageFill => 0x61
  | .startCapture => 0x62
  | .abortCapture => 0x63
  | .installCurve => 0x64
  | .setProfile => 0x65

/-- All request kinds, in the order of R194. -/
def ReqKind.all : List ReqKind :=
  [ReqKind.viewLive, .viewBay, .viewTruck, .viewMaterial, .viewCounters, .nextRecord, .viewNodes, .viewCurve, .viewProfile,
    .viewPort, .viewPart, .collectNotices, .setNotices, .takeSnapshot,
    .selectBay, .assignTruck, .closeLoad, .setLoadTarget, .zeroBucket, .cancelZero, .endShift, .restoreSnapshot,
    .writeTruck, .dropTruck, .writeMaterial, .setTime, .nodeAccess, .nodeResult,
    .stagePiece, .stageFill, .startCapture, .abortCapture, .installCurve, .setProfile]

/-- The request kind that a kind byte names, if any (R173, R194). -/
def reqKindOf (b : Byte) : Option ReqKind := ReqKind.all.find? (fun k => k.code == b)

/-- The class of a request kind (R178). -/
def ReqKind.class : ReqKind → AccessClass
  | .viewLive | .viewBay | .viewTruck | .viewMaterial | .viewCounters | .nextRecord | .viewNodes | .viewCurve
  | .viewProfile | .viewPort | .viewPart | .collectNotices | .setNotices | .takeSnapshot => .view
  | .selectBay | .assignTruck | .closeLoad | .setLoadTarget | .zeroBucket | .cancelZero | .endShift
  | .restoreSnapshot => .operate
  | .writeTruck | .dropTruck | .writeMaterial | .setTime | .nodeAccess | .nodeResult => .fleet
  | .stagePiece | .stageFill | .startCapture | .abortCapture | .installCurve | .setProfile => .calibrate

/-- The least and greatest payload length of a request kind (R194). -/
def ReqKind.lengths : ReqKind → Nat × Nat
  | .viewLive | .viewMaterial | .viewCounters | .nextRecord | .viewNodes | .viewProfile | .viewPort | .viewPart
  | .collectNotices | .takeSnapshot | .zeroBucket | .cancelZero | .stageFill | .abortCapture | .installCurve => (0, 0)
  | .viewBay | .selectBay | .nodeResult => (1, 1)
  | .viewCurve | .endShift => (2, 2)
  | .setNotices | .dropTruck | .startCapture => (3, 3)
  | .viewTruck | .setTime => (4, 4)
  | .closeLoad | .nodeAccess => (5, 5)
  | .assignTruck => (8, 8)
  | .setLoadTarget => (9, 9)
  | .writeTruck => (10, 10)
  | .writeMaterial => (11, 11)
  | .stagePiece => (25, 25)
  | .setProfile => (45, 45)
  | .restoreSnapshot => (92, 434)

/-! ### Replies -/

/-- A success with the figures its rule lists. -/
def Reply.ok (payload : List Byte) : Reply := ⟨.ok, payload⟩

/-- A refusal, whose payload begins with its detail byte (R179). -/
def Reply.refuse (st : Status) (detail : Nat) (more : List Byte) : Reply := ⟨st, BitVec.ofNat 8 detail :: more⟩

/-- RANGE with the number of the first failing field (R179). -/
def Reply.range (field : Nat) : Reply := .refuse .range field []

/-- STALE with the bay's state (R196). -/
def Reply.staleBay (b : BayState) : Reply := .refuse .stale (0x20 + b.code) []

/-- STATE with the tracker state (R196). -/
def Reply.stateTracker (c : CycleState) : Reply := .refuse .state c.code []

/-- BUSY with a reason (R196): 2 both slots occupied, 3 zero pending, 4 capture armed, 5 weighing or check. -/
def Reply.busy (reason : Nat) : Reply := .refuse .busy reason []

/-- The bytes of an answer frame, from its sync byte to its check word (R169). -/
def Answer.bytes (a : Answer) : List Byte :=
  0xC3 :: coveredBytes a.tag a.reply.status.code a.reply.payload ++
    be 2 (crc16 (coveredBytes a.tag a.reply.status.code a.reply.payload)).toNat

/-- The length of an answer frame: sync, length, tag, status, payload and check word (R169). -/
def Answer.size (a : Answer) : Nat := a.reply.payload.length + 7

end Sys2Proof.Machine
end

