-- ==== Sys2Proof/Machine/Defaults.lean ====
section
/-! DEFINITION. The value each block takes after a power-on reset, as the chapter that owns it says. -/

namespace Sys2Proof.Machine

/-- The default binding, the last column of R5. -/
def Profile.defaultBinding : Roles (Option (Fin 16)) :=
  ⟨some 1, some 2, some 3, some 4, some 5, some 6, some 8, some 9⟩

/-- The default profile, the Default column of R89. -/
def Profile.default : Profile where
  sweepPeriod := 10
  headArea := 50894
  rodArea := 35186
  digAngle := -2500
  loAngle := 500
  hiAngle := 2500
  truckAngle := 3500
  dumpAngle := -2500
  rateMin := 4
  rateMax := 80
  minSamples := 6
  spreadLimit := 400
  residueThreshold := 150
  deadband := 500
  mode := .double
  volume := 6400
  defTarget := 40000
  defMax := 44000
  defMaterial := 0
  origin := -1000
  step := 500
  warnLevel := 1
  binding := Profile.defaultBinding

/-- A role placed by a reset: FAULT when bound, UNBOUND when not, with no counts and no value (R18, R19). -/
def RoleRec.placed (bound : Option (Fin 16)) : RoleRec where
  bound := bound
  state := if bound.isSome then .fault else .unbound
  misses := 0
  recoveries := 0
  lastGood := none

/-- One value for each role, from a function of the role's present value. -/
def Roles.map {α β : Type} (f : α → β) (x : Roles α) : Roles β :=
  ⟨f x.head, f x.rod, f x.boom, f x.bucket, f x.pitch, f x.steer, f x.tagL, f x.tagR⟩

/-- The same value for each role. -/
def Roles.all {α : Type} (a : α) : Roles α := ⟨a, a, a, a, a, a, a, a⟩

/-- The link controller after a reset, for a binding and a sweep period (R18, R19). -/
def Link.afterReset (binding : Roles (Option (Fin 16))) (period : Nat) : Link where
  presence := Vector.replicate 16 ⟨false, none, 0⟩
  probePtr := 0
  roles := binding.map RoleRec.placed
  slots := Vector.replicate 2 .free
  lastServed := 1
  zeroTags := 0
  period := period
  sweep := none

/-- The tracker after either reset (R48). -/
def Tracker.afterReset : Tracker where
  cycle := .idle
  prevBoom := none
  timer := 0
  held := none
  residuePending := false
  dumpRef := none
  zeroPending := false
  capture := none
  overload := ⟨false, false⟩
  lastZero := none
  prevRecord := none
  dumpNo := 0
  returnOf := none

/-- The empty window accumulator (R52). -/
def Accumulator.empty : Accumulator where
  sum := 0
  count := 0
  min := none
  max := none
  skipped := 0
  sat := false
  nopitch := false
  slow := false
  abandoned := false

/-- Empty capture bin accumulators (R81). -/
def emptyBins : Vector CaptureBin 16 := Vector.replicate 16 ⟨0, 0⟩

/-- The weighing unit after a power-on reset (R73). -/
def Weigh.powerOn : Weigh where
  acc := Accumulator.empty
  bins := emptyBins
  zeroTrim := 0

/-- The calibration store after a power-on reset (R75, R76, R95). -/
def Cal.powerOn : Cal where
  active := Vector.replicate 16 ⟨0, 1336⟩
  generation := 0
  staging := Vector.replicate 16 ⟨0, 1336, false, false⟩
  report := none
  profile := Profile.default

/-- An EMPTY bay with a profile's default figures (R124). -/
def Bay.afterReset (f : Profile) : Bay where
  state := .empty
  load := 0
  tag := none
  ref := none
  material := f.defMaterial
  target := f.defTarget
  max := f.defMax
  opened := 0
  passes := []
  total := 0

/-- The bay manager after a reset, with the next load number it starts from (R124). -/
def Bays.afterReset (f : Profile) (nextLoad : Nat) : Bays where
  bay := ⟨Bay.afterReset f, Bay.afterReset f⟩
  active := .left
  nextLoad := nextLoad
  crossReads := 0
  residueReport := none

/-- An invalid truck entry after a power-on reset (R144). Its tag, figures and last-seen time are not read:
DESIGN CHOICE 0 and absent (notes/assumptions/22.md). -/
def TruckEntry.invalid : TruckEntry where
  valid := false
  pinned := false
  tag := 0
  target := 0
  max := 0
  material := 0
  trips := 0
  lastPayload := 0
  lastSeen := none

/-- The truck table after a power-on reset (R127, R144). -/
def trucksPowerOn : Vector TruckSet 8 :=
  Vector.replicate 8 ⟨Vector.replicate 4 TruckEntry.invalid, false, false, false⟩

/-- Eight spaces: the blank label (R141). -/
def blankLabel : List Byte := List.replicate 8 0x20

/-- The label DEFAULT followed by one space (R144). -/
def defaultLabel : List Byte := [0x44, 0x45, 0x46, 0x41, 0x55, 0x4C, 0x54, 0x20]

/-- The material table after a power-on reset (R144). -/
def materialsPowerOn : Vector Material 16 :=
  (Vector.replicate 16 ⟨0, blankLabel⟩).set 0 ⟨1600, defaultLabel⟩

/-- The production log after either reset (R159, R160). -/
def Log.afterReset : Log where
  records := []
  unread := ⟨0, 0⟩
  missed := ⟨0, 0⟩

/-- The ten counters at the start of a shift (R153). -/
def Counters.zero : Counters := ⟨0, 0, 0, 0, 0, 0, 0, 0, 0, 0⟩

/-- The shift block after a reset, under a shift number and with a start time (R159, R160). The minimum takes the
first measurement: until then it stands at 400, the top of its range, from which any first measurement lowers it
to itself. DESIGN CHOICE (notes/assumptions/6.md). -/
def Shift.afterReset (number : Nat) (start : Clock) : Shift where
  number := number
  start := start
  minVsys := 400
  counters := Counters.zero

/-- The supply monitor after either reset (R164). The last VSYS and the minimum take the first measurement: until
then they stand at 400. DESIGN CHOICE (notes/assumptions/6.md). -/
def Supply.afterReset : Supply where
  state := .normal
  lowCount := 0
  highCount := 0
  lastVsys := 400
  minSince := 400

/-- A pacer after either reset (R186), with its port's default enables and interval. -/
def Pacer.afterReset (enables : BitVec 12) (interval : Nat) : Pacer where
  pending := Vector.replicate 12 0
  passBays := ⟨false, false⟩
  bayBays := ⟨false, false⟩
  overloadBays := ⟨false, false⟩
  sensorRoles := Roles.all false
  enables := enables
  interval := interval
  timer := none
  line := false

/-- The Cab port enables every kind except NODE, bit 11, with interval 10; the Fleet port LOGGED, SHIFT, SENSOR,
SUPPLY and NODE, bits 5, 6, 7, 8 and 11, with interval 100 (R186, R196). -/
def Pacer.defaultOf : Port → Pacer
  | .cab => Pacer.afterReset 0x7FF 10
  | .fleet => Pacer.afterReset 0x9E0 100

/-- A port after either reset (R186). -/
def PortBlock.afterReset (p : Port) : PortBlock where
  assembler := .hunting
  queue := []
  answers := []
  sent := 0
  out := []
  discarded := 0
  pacer := Pacer.defaultOf p

/-- Both ports after either reset (R186). -/
def portsAfterReset : Ports PortBlock := ⟨PortBlock.afterReset .cab, PortBlock.afterReset .fleet⟩

/-- The arbiter after either reset (R177, R186). -/
def Arbiter.afterReset : Arbiter where
  items := []
  lastServed := .fleet
  fresh := true

end Sys2Proof.Machine
end

