-- ==== Sys2Proof/Machine/State.lean ====
section
/-! DEFINITION. The state of the WV-220: what every block holds, and the queue of commands. -/

namespace Sys2Proof.Machine

/-- What the part holds, block by block (INVENTORY.md, State), with the commands that wait (`pending`, oldest first)
and `openChoice`, the model's own counter for the orders the manual leaves open (notes/assumptions/10.md). -/
structure State where
  power       : Power
  pins        : Pins
  clock       : Clock
  resetRecord : ResetRecord
  link        : Link
  tracker     : Tracker
  weigh       : Weigh
  cal         : Cal
  bays        : Bays
  trucks      : Vector TruckSet 8
  materials   : Vector Material 16
  log         : Log
  shift       : Shift
  supply      : Supply
  arb         : Arbiter
  ports       : Ports PortBlock
  openChoice  : Nat
  pending     : List Instr
  deriving DecidableEq, Repr

/-- The part has no fault state: every event the manual describes has an effect it states. No meaning raises a
fault, so the type has no constructor; that is safe, since nothing is claimed of a fault. -/
inductive Fault where
  deriving DecidableEq, Repr

/-- Why a command is refused. -/
inductive Refusal where
  /-- Raised only by an arm of exec that has no meaning yet, by the row's mnemonic; no arm raises it now. Safe: the
  model stops. -/
  | notModelled (mnemonic : String)
  deriving DecidableEq, Repr

/-- The machine right after a power-on reset: every block at its power-on defaults (R165), the fresh flag set
(R177), the clock and the reset record's clock 0 (R166, R167). RESET_N and CAB_CS_N are high and CALEN low:
DESIGN CHOICE (notes/assumptions/5.md). -/
def State.reset : State where
  power := .running
  pins := ⟨false, false, false⟩
  clock := 0
  resetRecord := ⟨.powerOn, 0⟩
  link := Link.afterReset Profile.defaultBinding 10
  tracker := Tracker.afterReset
  weigh := Weigh.powerOn
  cal := Cal.powerOn
  bays := Bays.afterReset Profile.default 1
  trucks := trucksPowerOn
  materials := materialsPowerOn
  log := Log.afterReset
  shift := Shift.afterReset 1 0
  supply := Supply.afterReset
  arb := Arbiter.afterReset
  ports := portsAfterReset
  openChoice := 0
  pending := []

end Sys2Proof.Machine
end

