-- ==== Sys2Proof/Machine/Ops.lean ====
section
/-! DEFINITION. The operations that the commands share: rounding, saturating counts, notices and pacers, the tally
arbiter's choice, the grant of an item and of a request, arrival and answers. -/

namespace Sys2Proof.Machine

/-- What a command answers. -/
abbrev Result := Host.Outcome State Fault Refusal

/-! ### Arithmetic (chapter 3, Rounding and limits) -/

/-- A quotient rounded down, toward negative infinity (R49). Every divisor the manual uses is above 0, where Lean's
integer division is this one. -/
def floorDiv (a b : Int) : Int := a / b

/-- The mean of a sum over a count of at least 1, rounded half up (R50). -/
def meanOf (sum : Int) (count : Nat) : Int := floorDiv (2 * sum + count) (2 * count)

/-- A clamp (R51). -/
def clamp (lo hi v : Int) : Int := if v < lo then lo else if hi < v then hi else v

/-- A saturating count (R51): an increase that would pass the maximum leaves it there. -/
def satAdd (cap a b : Nat) : Nat := min (a + b) cap

/-- The largest 16-bit and 32-bit counts (R154). -/
def max16 : Nat := 65535

/-- The largest 32-bit count (R154). -/
def max32 : Nat := 4294967295

/-! ### Reaching one bay, port or pacer -/

/-- The record of one bay. -/
def State.bay (s : State) (d : Side) : Bay := s.bays.bay.get d

end Sys2Proof.Machine

namespace Sys2Proof

/-- The other bay. -/
def Side.other : Side → Side
  | .left => .right
  | .right => .left

/-- The other port. -/
def Port.other : Port → Port
  | .cab => .fleet
  | .fleet => .cab

end Sys2Proof

namespace Sys2Proof.Machine

/-- Change the record of one bay. -/
def State.modifyBay (s : State) (d : Side) (f : Bay → Bay) : State :=
  { s with bays := { s.bays with bay := s.bays.bay.modify d f } }

/-- One port. -/
def State.port (s : State) (p : Port) : PortBlock := s.ports.get p

/-- Change one port. -/
def State.modifyPort (s : State) (p : Port) (f : PortBlock → PortBlock) : State :=
  { s with ports := s.ports.modify p f }

/-- Change one port's pacer. -/
def PortBlock.modifyPacer (b : PortBlock) (f : Pacer → Pacer) : PortBlock := { b with pacer := f b.pacer }

/-! ### Notices (R182, R185) -/

/-- The kind of a notice. -/
def Notice.kind : Notice → NoticeKind
  | .pass _ => .pass
  | .pile => .pile
  | .bay _ => .bay
  | .overload _ => .overload
  | .residue => .residue
  | .logged => .logged
  | .shift => .shift
  | .sensor _ => .sensor
  | .supply => .supply
  | .zero => .zero
  | .capture => .capture
  | .node => .node

/-- The twelve kinds (R182). -/
def NoticeKind.all : List NoticeKind :=
  [.pass, .pile, .bay, .overload, .residue, .logged, .shift, .sensor, .supply, .zero, .capture, .node]

/-- The pending count of a kind. -/
def Pacer.count (pc : Pacer) (k : NoticeKind) : Nat := pc.pending[k.num]

/-- The kind is in the enable set. -/
def Pacer.enabled (pc : Pacer) (k : NoticeKind) : Bool := pc.enables.getLsbD k.num

/-- Some enabled kind has a count above 0 (R185). -/
def Pacer.due (pc : Pacer) : Bool := NoticeKind.all.any (fun k => pc.enabled k && decide (0 < pc.count k))

/-- The line asserts, and the timer starts for the interval, unless it is 0 (R185). -/
def Pacer.assert (pc : Pacer) : Pacer :=
  { pc with line := true, timer := if pc.interval = 0 then none else some pc.interval }

/-- A notice is counted, enabled or not, and the bay or role it names joins its kind's set (R182). -/
def Pacer.note (pc : Pacer) (n : Notice) : Pacer :=
  let counted := { pc with pending := pc.pending.set n.kind.num (satAdd 255 (pc.count n.kind) 1) }
  match n with
  | .pass d => { counted with passBays := counted.passBays.modify d fun _ => true }
  | .bay d => { counted with bayBays := counted.bayBays.modify d fun _ => true }
  | .overload d => { counted with overloadBays := counted.overloadBays.modify d fun _ => true }
  | .sensor r => { counted with sensorRoles := counted.sensorRoles.modify r fun _ => true }
  | .pile | .residue | .logged | .shift | .supply | .zero | .capture | .node => counted

/-- A notice reaches the pacer (R185, first two rows): one of an enabled kind asserts a deasserted line whose timer
is stopped. -/
def Pacer.raise (pc : Pacer) (n : Notice) : Pacer :=
  let counted := pc.note n
  if counted.enabled n.kind && !counted.line && counted.timer.isNone then counted.assert else counted

/-- The pace timer expires (R185, third row). -/
def Pacer.expire (pc : Pacer) : Pacer :=
  match pc.timer with
  | none => pc
  | some _ =>
    let stopped := { pc with timer := none }
    if !stopped.line && stopped.due then stopped.assert else stopped

/-- The counts and sets are collected (R183): they are zeroed and the line deasserts. -/
def Pacer.collect (pc : Pacer) : Pacer :=
  { pc with
    pending := Vector.replicate 12 0
    passBays := ⟨false, false⟩
    bayBays := ⟨false, false⟩
    overloadBays := ⟨false, false⟩
    sensorRoles := Roles.all false
    line := false }

/-- A new enable set and interval (R184; R185, last row). -/
def Pacer.configure (pc : Pacer) (enables : BitVec 12) (interval : Nat) : Pacer :=
  let fresh := { pc with enables := enables, interval := min interval 200 }
  if fresh.line then
    if fresh.due then fresh else { fresh with line := false }
  else if fresh.timer.isNone && fresh.due then fresh.assert
  else fresh

/-- A block raises a notice: it reaches both pacers, but NODE the Fleet port's alone (R15, R182). -/
def State.raise (s : State) (n : Notice) : State :=
  let toFleet := s.modifyPort .fleet fun b => b.modifyPacer fun pc => pc.raise n
  if n = .node then toFleet else toFleet.modifyPort .cab fun b => b.modifyPacer fun pc => pc.raise n

/-! ### The end of a grant (R97, R177) -/

/-- BAY is raised for a bay when the grant has changed its state, its load number or its tag (R97). -/
def State.raiseBayChange (pre : State) (d : Side) (s : State) : State :=
  if (pre.bay d).state ≠ (s.bay d).state ∨ (pre.bay d).load ≠ (s.bay d).load ∨ (pre.bay d).tag ≠ (s.bay d).tag
  then s.raise (.bay d) else s

/-- The grant changed a bay record, a shift counter or the production log (R177). -/
def recordsChanged (pre post : State) : Bool :=
  decide (pre.bays.bay ≠ post.bays.bay) || decide (pre.shift.counters ≠ post.shift.counters) ||
    decide (pre.log.records ≠ post.log.records)

/-- The end of a grant: BAY notices, judged on the state before and after it (R97), and the fresh flag, which the
first grant that changes a bay record, a shift counter or the log clears (R177). -/
def State.settle (pre post : State) : State :=
  let s := pre.raiseBayChange .right (pre.raiseBayChange .left post)
  { s with arb := { s.arb with fresh := s.arb.fresh && !recordsChanged pre post } }

/-! ### The tally arbiter (R175) -/

/-- What the arbiter grants next: the outcome or tag event that arrived first, or the request at the head of a
port's queue. -/
inductive Turn where
  | item (i : Item)
  | request (p : Port) (r : Request)
  deriving DecidableEq, Repr

/-- The request that waits at the head of a port's queue while its answer buffer has a free place (R175, step 2). -/
def PortBlock.ready (b : PortBlock) : Option Request := if b.answers.length < 4 then b.queue.head? else none

/-- The arbiter's choice (R175): outcomes and tag events in order of arrival, before any request; when both ports
qualify, the one other than the last-served port. -/
def State.turn (s : State) : Option Turn :=
  match s.arb.items with
  | i :: _ => some (.item i)
  | [] =>
    match (s.port s.arb.lastServed.other).ready, (s.port s.arb.lastServed).ready with
    | some r, _ => some (.request s.arb.lastServed.other r)
    | none, some r => some (.request s.arb.lastServed r)
    | none, none => none

/-- An item that arrives waits at the newest end (R175). -/
def State.hand (s : State) (i : Item) : State := { s with arb := { s.arb with items := s.arb.items ++ [i] } }

/-- The item in front leaves the arbiter. -/
def State.dropItem (s : State) : State := { s with arb := { s.arb with items := s.arb.items.tail } }

/-- Grant the item in front, when the part runs and it is of the kind that `work` carries out; the grant is then
carried out whole. A command that grants another item than the one in front stands for nothing that can happen, and
has no effect (notes/assumptions/1.md, 2.md). -/
def grantItem (work : Item → Option (State → State)) (s : State) : Result :=
  if s.power = .running then
    match s.arb.items with
    | [] => .next s
    | i :: _ =>
      match work i with
      | none => .next s
      | some f => .next (s.settle (f s.dropItem))
  else .next s

/-! ### Requests (R173 to R176) -/

/-- An answer enters a port's answer buffer (R174). -/
def State.answer (s : State) (p : Port) (a : Answer) : State :=
  s.modifyPort p fun b => { b with answers := b.answers ++ [a] }

/-- The request at the head of a port's queue leaves it at its grant, and the port becomes the last served (R173,
R175). -/
def State.dropRequest (s : State) (p : Port) : State :=
  let popped := s.modifyPort p fun b => { b with queue := b.queue.tail }
  { popped with arb := { popped.arb with lastServed := p } }

/-- The level of CALEN is read, by a command that carries it (R77; notes/assumptions/4.md). -/
def State.readCalen (s : State) : Option Bool → State
  | none => s
  | some level => { s with pins := { s.pins with calen := level } }

/-- The class check (R176, R178): the detail of the DENIED answer, if the class is not allowed. -/
def denial (k : ReqKind) (p : Port) (calen : Bool) : Option Nat :=
  match k.class with
  | .view | .operate => none
  | .fleet => if p = .cab then some 1 else none
  | .calibrate => if calen then none else some 2

/-- The payload length is one the kind allows (R176, R194). -/
def lengthFits (k : ReqKind) (n : Nat) : Bool := decide (k.lengths.1 ≤ n) && decide (n ≤ k.lengths.2)

/-- The grant of a request (R176): the class check, the payload-length check, and then its owning rule. -/
def State.carryOut (s : State) (k : ReqKind) (p : Port) (payload : List Byte)
    (work : List Byte → State → State × Reply) : State × Reply :=
  match denial k p s.pins.calen with
  | some detail => (s, .refuse .denied detail [])
  | none => if lengthFits k payload.length then work payload s else (s, .range 0)

/-- Grant the request of this kind that the arbiter's turn gives to this port: it leaves the queue, is carried out
whole, and its answer enters the buffer (R175, R176). A command that grants another request than the one whose turn
it is stands for nothing that can happen, and has no effect (notes/assumptions/1.md, 2.md). -/
def grantRequest (k : ReqKind) (p : Port) (calen : Option Bool) (work : List Byte → State → State × Reply)
    (s : State) : Result :=
  if s.power = .running then
    match s.turn with
    | some (.request q r) =>
      if q = p ∧ r.kind = k then
        let out := ((s.dropRequest p).readCalen calen).carryOut k p r.payload work
        .next ((s.settle out.1).answer p ⟨r.tag, out.2⟩)
      else .next s
    | _ => .next s
  else .next s

/-- A request that changes nothing and answers OK with a picture taken at its grant. -/
def viewWork (figures : State → List Byte) : List Byte → State → State × Reply :=
  fun _ s => (s, .ok (figures s))

/-! ### The production log (R148, R149) -/

/-- One port's counts after an append: below 64 held the unread count rises; in a full log a port that has read
none of the 64 counts a miss, and any other's unread count rises (R148, R149). -/
def settleCounts (full : Bool) (unread missed : Nat) : Nat × Nat :=
  if full && unread == 64 then (64, satAdd max16 missed 1) else (unread + 1, missed)

/-- Append a record: a full log first loses its oldest (R148, R149). -/
def Log.append (l : Log) (r : LogRecord) : Log :=
  let full := decide (64 ≤ l.records.length)
  let cab := settleCounts full l.unread.cab l.missed.cab
  let fleet := settleCounts full l.unread.fleet l.missed.fleet
  { records := (if full then l.records.tail else l.records) ++ [r]
    unread := ⟨cab.1, fleet.1⟩
    missed := ⟨cab.2, fleet.2⟩ }

/-- Append a record and raise LOGGED or SHIFT (R148). -/
def State.append (s : State) (r : LogRecord) : State :=
  let logged := { s with log := s.log.append r }
  match r with
  | .load _ => logged.raise .logged
  | .shift _ => logged.raise .shift

/-- Change the shift counters. -/
def State.count (s : State) (f : Counters → Counters) : State :=
  { s with shift := { s.shift with counters := f s.shift.counters } }

end Sys2Proof.Machine
end

