-- ==== Sys2Proof/Machine/Trucks.lean ====
section
/-! DEFINITION. The truck table (chapter 6): replacement order, lookup, allocation, trips, and the dispatcher's
requests; and the material table's one write. -/

namespace Sys2Proof.Machine

/-! ### Sets and ways (R126) -/

/-- The set of a tag (R126). -/
def setOf (tag : Nat) : Fin 8 := ⟨tag % 8, Nat.mod_lt _ (by decide)⟩

/-- The ways of a set, lowest first. -/
def allWays : List (Fin 4) := [0, 1, 2, 3]

/-- The entry that a set and way name. -/
def State.entry (s : State) (ref : TruckRef) : TruckEntry := s.trucks[ref.set].ways[ref.way]

/-- A plain lookup within a set: the way of the valid entry that holds the tag (R130). -/
def TruckSet.find (t : TruckSet) (tag : Nat) : Option (Fin 4) :=
  allWays.find? fun w => t.ways[w].valid && t.ways[w].tag == tag

/-- A plain lookup in the table (R130). -/
def State.lookup (s : State) (tag : Nat) : Option TruckRef :=
  (s.trucks[setOf tag].find tag).map fun w => ⟨setOf tag, w⟩

/-! ### Replacement order (R127 to R129) -/

/-- Touching a way points the bits away from it (R128). -/
def TruckSet.touch (t : TruckSet) (w : Fin 4) : TruckSet :=
  match w with
  | 0 => { t with root := true, pairA := true }
  | 1 => { t with root := true, pairA := false }
  | 2 => { t with root := false, pairB := true }
  | 3 => { t with root := false, pairB := false }

/-- The way a pair's bit names: of ways 2 and 3 for the second pair, of ways 0 and 1 for the first (R127). -/
def TruckSet.pairChoice (t : TruckSet) (second : Bool) : Fin 4 :=
  if second then (if t.pairB then 3 else 2) else (if t.pairA then 1 else 0)

/-- The other way of a pair (R127). -/
def pairMate (w : Fin 4) : Fin 4 :=
  match w with
  | 0 => 1
  | 1 => 0
  | 2 => 3
  | 3 => 2

/-- The order in which the ways of a full set are examined (R129, step 2). -/
def TruckSet.order (t : TruckSet) : List (Fin 4) :=
  let here := t.pairChoice t.root
  let there := t.pairChoice (!t.root)
  [here, pairMate here, there, pairMate there]

/-- The victim of a set (R129). -/
def TruckSet.victim (t : TruckSet) : Option (Fin 4) :=
  match allWays.find? fun w => !t.ways[w].valid with
  | some w => some w
  | none => t.order.find? fun w => !t.ways[w].pinned

/-! ### Changing an entry -/

/-- Change one set. -/
def State.modifySet (s : State) (i : Fin 8) (f : TruckSet → TruckSet) : State :=
  { s with trucks := s.trucks.set i (f s.trucks[i]) }

/-- Write an entry without touching its way. -/
def TruckSet.put (t : TruckSet) (w : Fin 4) (e : TruckEntry) : TruckSet := { t with ways := t.ways.set w e }

/-- A bay whose truck reference names the entry taken loses it (R117, R133). -/
def Bay.loseRef (b : Bay) (ref : TruckRef) : Bay := if b.ref = some ref then { b with ref := none } else b

/-- Both bays are told which set and way were taken (R133). -/
def State.loseRef (s : State) (ref : TruckRef) : State :=
  (s.modifyBay .left fun b => b.loseRef ref).modifyBay .right fun b => b.loseRef ref

/-- A way is written for a new truck, and touched; a valid occupant is displaced, and bays that referenced it lose
their reference (R131, R133, R136). -/
def State.place (s : State) (ref : TruckRef) (e : TruckEntry) : State :=
  (if (s.entry ref).valid then s.loseRef ref else s).modifySet ref.set fun t => (t.put ref.way e).touch ref.way

/-- The entry that an allocation writes (R131). -/
def allocated (f : Profile) (clock : Clock) (tag : Nat) : TruckEntry where
  valid := true
  pinned := false
  tag := tag
  target := f.defTarget
  max := f.defMax
  material := f.defMaterial
  trips := 0
  lastPayload := 0
  lastSeen := some clock

/-- The figures a bay takes with a truck (R103). -/
def Bay.takeTruck (b : Bay) (tag : Nat) (ref : Option TruckRef) (material : Fin 16) (target max : Nat) : Bay :=
  { b with tag := some tag, ref := ref, material := material, target := target, max := max }

/-- Identify a tag for a bay (R103): a hit, a miss with a victim, or a miss with none (R130 to R132). -/
def State.identify (s : State) (d : Side) (tag : Nat) : State :=
  let f := s.cal.profile
  match s.lookup tag with
  | some ref =>
    let e := s.entry ref
    (s.modifySet ref.set fun t => (t.put ref.way { e with lastSeen := some s.clock }).touch ref.way).modifyBay d
      fun b => b.takeTruck tag (some ref) e.material e.target e.max
  | none =>
    match s.trucks[setOf tag].victim with
    | some w =>
      (s.place ⟨setOf tag, w⟩ (allocated f s.clock tag)).modifyBay d
        fun b => b.takeTruck tag (some ⟨setOf tag, w⟩) f.defMaterial f.defTarget f.defMax
    | none => s.modifyBay d fun b => b.takeTruck tag none f.defMaterial f.defTarget f.defMax

/-- A close counts a trip on the entry referenced, without touching it (R114 step 2, R139). -/
def State.countTrip (s : State) (ref : TruckRef) (total : Nat) : State :=
  s.modifySet ref.set fun t =>
    t.put ref.way { t.ways[ref.way] with
      trips := satAdd max16 t.ways[ref.way].trips 1
      lastPayload := total
      lastSeen := some s.clock }

/-! ### WRITE_TRUCK (R134 to R136) -/

/-- The pin choice of a byte (R194). -/
def pinOf : Nat → Option Bool
  | 0 => some false
  | 1 => some true
  | _ => none

/-- The way of WRITE_TRUCK: 0 to 3, or 0xFF for none given; any other value is out of range (R194). -/
def wayOf (n : Nat) : Option (Option (Fin 4)) :=
  if h : n < 4 then some (some ⟨n, h⟩) else if n = 0xFF then some none else none

/-- The bytes of a set and way. -/
def TruckRef.bytes (r : TruckRef) : List Byte := be 1 r.set.val ++ be 1 r.way.val

/-- An entry as WRITE_TRUCK writes it for a tag not present (R136). -/
def writtenEntry (tag target max : Nat) (material : Fin 16) (pinned : Bool) : TruckEntry where
  valid := true
  pinned := pinned
  tag := tag
  target := target
  max := max
  material := material
  trips := 0
  lastPayload := 0
  lastSeen := none

/-- The write of a truck whose fields have passed (R135, R136): in place (verdict updated, 0), or into a way (verdict
new, 1, with the tag displaced; the verdict's numbers, notes/assumptions/16.md). -/
def State.writeTruck (s : State) (tag target max : Nat) (material : Fin 16) (pinned : Bool) (way : Option (Fin 4)) :
    State × Reply :=
  match s.lookup tag with
  | some ref =>
    let e := { s.entry ref with target := target, max := max, material := material, pinned := pinned }
    (s.modifySet ref.set fun t => (t.put ref.way e).touch ref.way, .ok (ref.bytes ++ [0]))
  | none =>
    match way.or s.trucks[setOf tag].victim with
    | some w =>
      let ref : TruckRef := ⟨setOf tag, w⟩
      let old := s.entry ref
      (s.place ref (writtenEntry tag target max material pinned),
        .ok (ref.bytes ++ 1 :: optional (if old.valid then some old.tag else none) (be 3)))
    | none => (s, .refuse .full (setOf tag).val [])

/-- The bounds of a target (R96, R125). -/
def targetOk (t : Nat) : Bool := decide (1000 ≤ t) && decide (t ≤ 60000)

/-- The bounds of a max beside its target (R96, R125). -/
def maxOk (t m : Nat) : Bool := decide (1000 ≤ m) && decide (m ≤ 60000) && decide (t ≤ m)

/-- The work of WRITE_TRUCK (R134): tag, target, max, material, pin and way are checked in that order. -/
def writeTruckWork (payload : List Byte) (s : State) : State × Reply :=
  let tag := natAt payload 0 3
  let target := natAt payload 3 2
  let max := natAt payload 5 2
  let material := natAt payload 7 1
  if tag = 0 then (s, .range 1)
  else if !targetOk target then (s, .range 2)
  else if !maxOk target max then (s, .range 3)
  else if hm : material < 16 then
    match pinOf (natAt payload 8 1), wayOf (natAt payload 9 1) with
    | none, _ => (s, .range 5)
    | some _, none => (s, .range 6)
    | some pinned, some way => s.writeTruck tag target max ⟨material, hm⟩ pinned way
  else (s, .range 4)

/-- WRITE_TRUCK (R134). -/
def execWriteTruck (p : Port) (s : State) : Result := grantRequest .writeTruck p none writeTruckWork s

/-! ### DROP_TRUCK (R137) -/

/-- The work of DROP_TRUCK (R137). -/
def dropTruckWork (payload : List Byte) (s : State) : State × Reply :=
  let tag := natAt payload 0 3
  if tag = 0 then (s, .range 1)
  else
    match s.lookup tag with
    | some ref =>
      ((s.loseRef ref).modifySet ref.set fun t => t.put ref.way { t.ways[ref.way] with valid := false },
        .ok (1 :: ref.bytes))
    | none => (s, .ok [0])

/-- DROP_TRUCK (R137). -/
def execDropTruck (p : Port) (s : State) : Result := grantRequest .dropTruck p none dropTruckWork s

/-! ### WRITE_MATERIAL (R142) -/

/-- The bounds of a density (R141). -/
def densityOk (n : Nat) : Bool := n == 0 || (decide (500 ≤ n) && decide (n ≤ 3500))

/-- A character from space to tilde (R141). -/
def labelChar (b : Byte) : Bool := decide (0x20 ≤ b.toNat) && decide (b.toNat ≤ 0x7E)

/-- The work of WRITE_MATERIAL (R142): code, density and label, then the default material's density. -/
def writeMaterialWork (payload : List Byte) (s : State) : State × Reply :=
  let code := natAt payload 0 1
  let density := natAt payload 1 2
  let label := slice payload 3 8
  if h : code < 16 then
    if !densityOk density then (s, .range 2)
    else if !label.all labelChar then (s, .range 3)
    else if density = 0 ∧ s.cal.profile.defMaterial.val = code then (s, .range 2)
    else ({ s with materials := s.materials.set code ⟨density, label⟩ }, .ok [])
  else (s, .range 1)

/-- WRITE_MATERIAL (R142). -/
def execWriteMaterial (p : Port) (s : State) : Result := grantRequest .writeMaterial p none writeMaterialWork s

end Sys2Proof.Machine
end

