-- ==== Sys2Proof/Machine/Flags.lean ====
section
/-! DEFINITION. The quality flags of R64: how they are joined, and the two-byte field they travel in (R197). -/

namespace Sys2Proof.Machine

/-- No flag set. -/
def Flags.none : Flags := ⟨false, false, false, false, false, false, false, false, false⟩

/-- Every flag that either side holds (R110, the quality summary of R114). -/
def Flags.union (a b : Flags) : Flags where
  unweighed := a.unweighed || b.unweighed
  rough := a.rough || b.rough
  sat := a.sat || b.sat
  nopitch := a.nopitch || b.nopitch
  slow := a.slow || b.slow
  reweighed := a.reweighed || b.reweighed
  uncal := a.uncal || b.uncal
  merged := a.merged || b.merged
  residue := a.residue || b.residue

/-- The quality summary of a load: every flag set on any of its passes (R114). -/
def Flags.summary (ps : List Pass) : Flags := ps.foldl (fun a p => a.union p.flags) Flags.none

/-- One bit of the two-byte field. -/
def flagBit (b : Bool) (n : Nat) : Nat := if b then 2 ^ n else 0

/-- The two-byte field of R197: bit 0 is UNWEIGHED, bits 1 to 8 are ROUGH, SAT, NOPITCH, SLOW, REWEIGHED, UNCAL,
MERGED and RESIDUE; bits 9 to 15 are sent as 0. -/
def Flags.toNat (f : Flags) : Nat :=
  flagBit f.unweighed 0 + flagBit f.rough 1 + flagBit f.sat 2 + flagBit f.nopitch 3 + flagBit f.slow 4 +
    flagBit f.reweighed 5 + flagBit f.uncal 6 + flagBit f.merged 7 + flagBit f.residue 8

/-- The flags that a two-byte field names; bits 9 to 15 are left out (V5 of R189 refuses them, R198). -/
def Flags.ofNat (n : Nat) : Flags where
  unweighed := n.testBit 0
  rough := n.testBit 1
  sat := n.testBit 2
  nopitch := n.testBit 3
  slow := n.testBit 4
  reweighed := n.testBit 5
  uncal := n.testBit 6
  merged := n.testBit 7
  residue := n.testBit 8

/-- The flags of a window result (R64, R65): SAT, NOPITCH and SLOW from the accumulator, UNCAL on generation 0. -/
def Flags.ofWindow (a : Accumulator) (generation : Nat) (unweighed rough : Bool) : Flags where
  unweighed := unweighed
  rough := rough
  sat := a.sat
  nopitch := a.nopitch
  slow := a.slow
  reweighed := false
  uncal := generation == 0
  merged := false
  residue := false

end Sys2Proof.Machine
end

