-- ==== Sys2Proof/Machine/Weighing.lean ====
section
/-! DEFINITION. The weighing unit (chapter 3): the stages of a sample, the window accumulator, the three results, fill
and advisory, the live estimate, and the capture bins (chapter 4, R81). -/

namespace Sys2Proof.Machine

/-! ### Reading a sweep record -/

/-- The reading is fit for use by the tracker: OK or HOLD (R23, R34). -/
def RoleReading.usable (r : RoleReading) : Bool := r.state == .ok || r.state == .hold

/-- The role is in FAULT or UNBOUND in this record (R29, R45). -/
def RoleReading.faulty (r : RoleReading) : Bool := r.state == .fault || r.state == .unbound

/-- The role value; a usable reading always has one (R12). -/
def RoleReading.number (r : RoleReading) : Int := r.value.getD 0

/-- The lift rate of a record: its boom value less the previous boom, absent while either is (R25). -/
def liftRate (prev : Option Int) (r : SweepRecord) : Option Int :=
  match prev, r.boom.value with
  | some p, some b => some (b - p)
  | _, _ => none

/-- The rate is present and lies in the band (R54, R81). -/
def rateInBand (f : Profile) : Option Int → Bool
  | none => false
  | some x => decide ((f.rateMin : Int) ≤ x) && decide (x ≤ f.rateMax)

/-- HEAD, ROD and BOOM are each in OK (R54, R81). -/
def SweepRecord.forceReady (r : SweepRecord) : Bool :=
  r.head.state == .ok && r.rod.state == .ok && r.boom.state == .ok

/-! ### Stages 2 to 5: one sample (R56 to R60) -/

/-- The net lift force in newtons (R56). -/
def liftForce (f : Profile) (r : SweepRecord) : Int :=
  floorDiv (r.head.number * f.headArea - r.rod.number * f.rodArea) 1000

/-- The effective angle before its clamp: the pitch is taken as 0 unless PITCH is in OK (R57, R72). -/
def rawAngle (r : SweepRecord) : Int :=
  r.boom.number + (if r.pitch.state = .ok then r.pitch.number else 0)

/-- The effective angle, clamped to the curve's range (R57). -/
def effectiveAngle (f : Profile) (r : SweepRecord) : Int :=
  clamp f.origin (f.origin + 15 * f.step) (rawAngle r)

/-- A straight line between two bins, in 256 steps, rounded down (R59). -/
def interpolate (a b : Int) (r : Int) : Int := a + floorDiv ((b - a) * r) 256

/-- A bin of the active curve by its number, the last one beyond it. -/
def curveBin (curve : Vector CurveBin 16) (i : Nat) : CurveBin := curve.toList.getD i curve[15]

/-- The empty force and the span at an effective angle (R58, R59). -/
def curveAt (curve : Vector CurveBin 16) (f : Profile) (angle : Int) : Int × Int :=
  let d := angle - f.origin
  let i := floorDiv d f.step
  if 15 ≤ i then (curve[15].empty, curve[15].span)
  else
    let r := floorDiv ((d - i * f.step) * 256) f.step
    let lo := curveBin curve i.toNat
    let hi := curveBin curve (i.toNat + 1)
    (interpolate lo.empty hi.empty r, interpolate lo.span hi.span r)

/-- The sample mass before its clamp (R60). -/
def rawMass (curve : Vector CurveBin 16) (f : Profile) (r : SweepRecord) : Int :=
  let es := curveAt curve f (effectiveAngle f r)
  floorDiv ((liftForce f r - es.1) * es.2) 65536

/-- The sample mass (R60). -/
def sampleMass (curve : Vector CurveBin 16) (f : Profile) (r : SweepRecord) : Int := clamp (-2000) 30000 (rawMass curve f r)

/-- SAT is set for a sample: the clamp changed it, or HEAD, ROD or BOOM carries an over-range marker (R60). -/
def sampleSat (curve : Vector CurveBin 16) (f : Profile) (r : SweepRecord) : Bool :=
  decide (sampleMass curve f r ≠ rawMass curve f r) || r.head.marked || r.rod.marked || r.boom.marked

/-! ### Stages 1 and 6: the accumulator (R53, R54, R61) -/

/-- The four conditions of stage 1 (R54). -/
def takes (f : Profile) (supply : SupplyState) (rate : Option Int) (r : SweepRecord) : Bool :=
  decide (f.loAngle ≤ r.boom.number) && decide (r.boom.number < f.hiAngle) && rateInBand f rate &&
    r.forceReady && supply == .normal

/-- The smaller of a sample and a minimum that may be absent (R61). -/
def lower (m : Int) : Option Int → Option Int
  | none => some m
  | some x => some (min x m)

/-- The larger of a sample and a maximum that may be absent (R61). -/
def upper (m : Int) : Option Int → Option Int
  | none => some m
  | some x => some (max x m)

/-- A sample is accumulated, or, when the count stands at 255, SLOW is set (R61). -/
def Accumulator.accumulate (a : Accumulator) (m : Int) (sat nopitch : Bool) : Accumulator :=
  if a.count < 255 then
    { a with
      sum := a.sum + m
      count := a.count + 1
      min := lower m a.min
      max := upper m a.max
      sat := a.sat || sat
      nopitch := a.nopitch || nopitch }
  else { a with slow := true }

/-- A weighing sweep reaches the accumulator: an abandoned one is left alone, a sweep that fails stage 1 is counted
as skipped, and a taken one is accumulated (R53, R54, R61). -/
def Accumulator.offer (a : Accumulator) (curve : Vector CurveBin 16) (f : Profile) (supply : SupplyState)
    (rate : Option Int) (r : SweepRecord) : Accumulator :=
  if a.abandoned then a
  else if takes f supply rate r then
    a.accumulate (sampleMass curve f r) (sampleSat curve f r) (decide (r.pitch.state ≠ .ok))
  else { a with skipped := satAdd 255 a.skipped 1 }

/-- The accumulator is marked abandoned; its figures keep their values (R29, R53). -/
def Accumulator.abandon (a : Accumulator) : Accumulator := { a with abandoned := true }

/-- The window is weighable: not abandoned, and with at least N_min samples (R30, R62). -/
def Accumulator.weighable (a : Accumulator) (f : Profile) : Bool := !a.abandoned && decide (f.minSamples ≤ a.count)

/-- The mean of the samples (R50). -/
def Accumulator.mean (a : Accumulator) : Int := meanOf a.sum a.count

/-- A mean less the zero trim, clamped to 0 to 30,000 kg (R62, R67, R71). -/
def netOf (mean trim : Int) : Nat := (clamp 0 30000 (mean - trim)).toNat

/-- The spread of a weighed window: max less min (R63). -/
def Accumulator.spread (a : Accumulator) : Int := a.max.getD 0 - a.min.getD 0

/-! ### Fill and advisory (R68 to R70) -/

/-- The bucket's capacity for a density, rounded down (R68). -/
def capacity (volume density : Nat) : Nat := volume * density / 1000

/-- The fill of a net, or 255 when the density is 0 (R68). -/
def fillOf (volume density net : Nat) : Nat :=
  if density = 0 then 255 else min (net * 100 / capacity volume density) 250

/-- The density of a material code as the table stands. -/
def State.density (s : State) (m : Fin 16) : Nat := s.materials[m].density

/-- The fill of a net for a material, as the profile and the material table stand (R68). -/
def State.fill (s : State) (m : Fin 16) (net : Nat) : Nat := fillOf s.cal.profile.volume (s.density m) net

/-- The material in play: that of the active bay's load, or the profile's default when the bay is EMPTY (R69). -/
def State.materialInPlay (s : State) : Fin 16 :=
  let b := s.bay s.bays.active
  if b.state = .empty then s.cal.profile.defMaterial else b.material

/-- The advisory of a bay in READY or LOADING (R70). -/
def State.advisory (s : State) (b : Bay) : Option Nat :=
  match b.state with
  | .ready | .loading => some (s.fill b.material (b.target - b.total))
  | .empty | .topped | .overMax => none

/-! ### The results (R62 to R67) and the live estimate (R71) -/

/-- The window result of the accumulator as the state stands (R62 to R65, R68, R69). -/
def State.windowResult (s : State) : WindowResult :=
  let a := s.weigh.acc
  let f := s.cal.profile
  if a.weighable f then
    let net := netOf a.mean s.weigh.zeroTrim
    ⟨net, s.fill s.materialInPlay net,
      Flags.ofWindow a s.cal.generation false (decide ((f.spreadLimit : Int) < a.spread))⟩
  else ⟨0, s.fill s.materialInPlay 0, Flags.ofWindow a s.cal.generation true false⟩

/-- The zero result of a zeroing lift and its verdict (R42, R67). -/
def Accumulator.zeroResult (a : Accumulator) : ZeroResult :=
  ⟨a.mean, decide (-1500 ≤ a.mean) && decide (a.mean ≤ 1500)⟩

/-- The residue result of a check window (R39, R67). -/
def State.residueResult (s : State) : Nat := netOf s.weigh.acc.mean s.weigh.zeroTrim

/-- The live mass of VIEW_LIVE (R71). -/
def State.liveMass (s : State) : Nat :=
  match s.tracker.cycle with
  | .weigh | .check =>
    if s.weigh.acc.abandoned || s.weigh.acc.count == 0 then 0
    else netOf s.weigh.acc.mean s.weigh.zeroTrim
  | .carry => match s.tracker.held with
    | some h => h.net
    | none => 0
  | .idle | .dig | .lift | .ret => 0

/-! ### Capture bins (R72, R81) -/

/-- The five conditions of R81; the first, that the tracker is in LIFT or WEIGH after the record, is the caller's. -/
def capturable (f : Profile) (supply : SupplyState) (rate : Option Int) (r : SweepRecord) : Bool :=
  decide (f.digAngle ≤ r.boom.number) && decide (r.boom.number < f.truckAngle) && rateInBand f rate &&
    r.forceReady && supply == .normal

/-- The bin nearest to an unclamped effective angle (R81). -/
def captureBinOf (f : Profile) (angle : Int) : Int :=
  floorDiv (angle - f.origin + ((f.step / 2 : Nat) : Int)) f.step

/-- A bin takes a force, up to 255 of them (R81). -/
def CaptureBin.add (b : CaptureBin) (force : Int) : CaptureBin :=
  if b.count < 255 then ⟨b.sum + force, b.count + 1⟩ else b

/-- A capture sweep that meets the conditions adds its force to its bin, if it has one (R81). -/
def captureSweep (bins : Vector CaptureBin 16) (f : Profile) (supply : SupplyState) (rate : Option Int)
    (r : SweepRecord) : Vector CaptureBin 16 :=
  let b := captureBinOf f (rawAngle r)
  if capturable f supply rate r && decide (0 ≤ b) then
    if h : b.toNat < 16 then bins.set b.toNat (bins[b.toNat].add (liftForce f r)) else bins
  else bins

end Sys2Proof.Machine
end

