-- ==== Sys2Proof/Machine/Bays.lean ====
section
/-! DEFINITION. The bay manager (chapter 5): the state of a bay, load numbers, opening, identifying, committing,
residues and closing, with the requests that act on a bay. -/

namespace Sys2Proof.Machine

/-! ### State and total (R97, R99) -/

/-- The state a bay's other fields give (R97). -/
def bayStateFor (load : Nat) (passes : List Pass) (total target max : Nat) : BayState :=
  if load = 0 then .empty
  else if passes = [] then .ready
  else if total < target then .loading
  else if total ≤ max then .topped
  else .overMax

/-- The state is computed anew (R97). -/
def Bay.restate (b : Bay) : Bay := { b with state := bayStateFor b.load b.passes b.total b.target b.max }

/-- The sum of the nets of a pass list (R99). -/
def sumNets (ps : List Pass) : Nat := (ps.map fun p => p.net).sum

/-- A bay takes a pass list, and its total and state are computed anew (R97, R99). -/
def Bay.withPasses (b : Bay) (ps : List Pass) : Bay := ({ b with passes := ps, total := sumNets ps }).restate

/-! ### Load numbers (R100) -/

/-- The load number after one has been taken: it wraps to 1, never to 0 (R100). -/
def nextLoadAfter (n : Nat) : Nat := if n = max32 then 1 else n + 1

/-- A bay takes the next load number (R100). -/
def State.takeNumber (s : State) (d : Side) : State :=
  let numbered := s.modifyBay d fun b => { b with load := s.bays.nextLoad }
  { numbered with bays := { numbered.bays with nextLoad := nextLoadAfter s.bays.nextLoad } }

/-- A load opens in an EMPTY bay with the next number, no passes and the opened time of the grant (R100, R105). -/
def State.openLoad (s : State) (d : Side) : State :=
  (s.takeNumber d).modifyBay d fun b => { b with opened := s.clock, passes := [], total := 0 }

/-- A load opens for a truck, which is identified (R103, R105). -/
def State.openFor (s : State) (d : Side) (tag : Nat) : State :=
  ((s.openLoad d).identify d tag).modifyBay d Bay.restate

/-- An anonymous load opens with the profile's defaults (R108). -/
def State.openAnonymous (s : State) (d : Side) : State :=
  let f := s.cal.profile
  (s.openLoad d).modifyBay d fun b =>
    ({ b with tag := none, ref := none, material := f.defMaterial, target := f.defTarget, max := f.defMax }).restate

/-! ### Closing (R101, R114) -/

/-- The bay becomes EMPTY; its target, max and material keep their values (R114, step 4). -/
def Bay.cleared (b : Bay) : Bay :=
  { b with state := .empty, load := 0, tag := none, ref := none, passes := [], total := 0, opened := 0 }

/-- The LOAD record of a bay (R114, step 1; R146). -/
def loadRecord (b : Bay) (d : Side) (reason : CloseReason) (clock : Clock) (shift : Nat) : LoadRecord where
  load := b.load
  side := d
  tag := b.tag
  material := b.material
  target := b.target
  max := b.max
  total := b.total
  nets := b.passes.map fun p => p.net
  quality := Flags.summary b.passes
  reason := reason
  opened := b.opened
  closed := clock
  shift := shift

/-- A truck-dump reference to a renumbered load takes the new number (R101). -/
def DumpRef.renumbered (r : DumpRef) (d : Side) (old new : Nat) : DumpRef :=
  if r.side = d ∧ r.load = old then { r with load := new } else r

/-- The load of a bay takes the next number when it holds one below that of a record just logged (R101). -/
def State.renumber (s : State) (d : Side) (logged : Nat) : State :=
  let old := (s.bay d).load
  if old ≠ 0 ∧ old < logged then
    let moved := s.takeNumber d
    { moved with
      tracker := { moved.tracker with
        dumpRef := moved.tracker.dumpRef.map fun r => r.renumbered d old s.bays.nextLoad } }
  else s

/-- A load in LOADING, TOPPED or OVER is closed, in the five steps of R114. -/
def State.closeLoad (s : State) (d : Side) (reason : CloseReason) : State :=
  let b := s.bay d
  let logged := s.append (.load (loadRecord b d reason s.clock s.shift.number))
  let tripped := match b.ref with
    | some ref => logged.countTrip ref b.total
    | none => logged
  let counted := tripped.count fun c =>
    { c with loadsClosed := satAdd max16 c.loadsClosed 1, payloadKg := satAdd max32 c.payloadKg b.total }
  (counted.modifyBay d Bay.cleared).renumber d.other b.load

/-! ### Trucks arriving (R104 to R106) -/

/-- A tag acts on a bay whose neighbour does not hold it (R105, R106). -/
def State.truckArrives (s : State) (d : Side) (tag : Nat) : State :=
  let b := s.bay d
  match b.state with
  | .empty => s.openFor d tag
  | .ready => if b.tag = some tag then s else (s.identify d tag).modifyBay d Bay.restate
  | .loading | .topped | .overMax =>
    match b.tag with
    | none => (s.identify d tag).modifyBay d Bay.restate
    | some t => if t = tag then s else (s.closeLoad d .newTruck).openFor d tag

/-- The other bay is not EMPTY and holds the tag (R104, R107). -/
def State.heldOpposite (s : State) (d : Side) (tag : Nat) : Bool :=
  decide ((s.bay d.other).state ≠ .empty) && (s.bay d.other).tag == some tag

/-- A tag event at its grant (R104): a cross-read is counted and otherwise ignored. -/
def State.tagEvent (s : State) (e : TagEvent) : State :=
  if s.heldOpposite e.side e.tag then
    { s with bays := { s.bays with crossReads := satAdd max16 s.bays.crossReads 1 } }
  else s.truckArrives e.side e.tag

/-! ### Committing a pass (R108 to R111) -/

/-- The bay that a bay choice names at this grant (R108). -/
def State.resolve (s : State) : BayChoice → Side
  | .side d => d
  | .active => s.bays.active

/-- The entry that an append makes (R109). -/
def newPass (index : Nat) (w : WindowResult) (fill cycleTime : Nat) (clock : Clock) : Pass where
  index := index
  net := w.net
  fill := fill
  flags := w.flags
  cycleTime := cycleTime
  commitTime := clock
  residue := none

/-- A bucket merged into a pass, the fill of the merged net being a function of it (R110). -/
def Pass.merge (p : Pass) (w : WindowResult) (fill : Nat → Nat) (cycleTime : Nat) (clock : Clock) : Pass :=
  let net := min (p.net + w.net) 30000
  { p with
    net := net
    fill := fill net
    flags := { p.flags.union w.flags with merged := true }
    cycleTime := satAdd max16 p.cycleTime cycleTime
    commitTime := clock }

/-- A pass list after a commit: appended while it holds fewer than 12 entries, merged into pass 12 after that (R109,
R110). -/
def committedPasses (ps : List Pass) (w : WindowResult) (fill : Nat → Nat) (cycleTime : Nat) (clock : Clock) :
    List Pass :=
  if ps.length < 12 then ps ++ [newPass (ps.length + 1) w (fill w.net) cycleTime clock]
  else ps.modify 11 fun p => p.merge w fill cycleTime clock

/-- The bucket is committed to a bay that holds a load (R109 to R111). -/
def State.commit (s : State) (d : Side) (w : WindowResult) (cycleTime : Nat) : State :=
  let fill := s.fill (s.bay d).material
  (s.modifyBay d fun b => b.withPasses (committedPasses b.passes w fill cycleTime s.clock)).raise (.pass d)

/-- The index of the pass that a commit to this bay makes or merges into (R109 to R111). -/
def commitIndex (b : Bay) : Nat := min (b.passes.length + 1) 12

/-- An EMPTY bay gets an anonymous load first (R108). -/
def State.ensureLoad (s : State) (d : Side) : State := if (s.bay d).state = .empty then s.openAnonymous d else s

/-! ### Residues (R112, R113) -/

/-- A residue taken off a pass (R112). -/
def Pass.takeOff (p : Pass) (r : Nat) (fill : Nat → Nat) : Pass :=
  let a := min r p.net
  { p with
    net := p.net - a
    fill := fill (p.net - a)
    flags := { p.flags with residue := true }
    residue := some (min (p.residue.getD 0 + a) 30000) }

/-- The net of the pass at an index, 1 being the first. -/
def netAt (ps : List Pass) (index : Nat) : Nat :=
  match ps[index - 1]? with
  | some p => p.net
  | none => 0

/-- A residue outcome at its grant: applied when the named bay holds the named load, declined otherwise (R112,
R113). -/
def State.applyResidue (s : State) (r : Nat) (ref : DumpRef) : State :=
  let b := s.bay ref.side
  if b.load = ref.load then
    let fill := s.fill b.material
    let taken := s.modifyBay ref.side fun b =>
      b.withPasses (b.passes.modify (ref.index - 1) fun p => p.takeOff r fill)
    let counted := taken.count fun c => { c with residues := satAdd max16 c.residues 1 }
    ({ counted with
        bays := { counted.bays with
          residueReport := some ⟨r, ref, min r (netAt b.passes ref.index), true⟩ } }).raise .residue
  else
    ({ s with bays := { s.bays with residueReport := some ⟨r, ref, 0, false⟩ } }).raise .residue

/-! ### SELECT_BAY (R102) -/

/-- The work of SELECT_BAY (R102). -/
def selectBayWork (payload : List Byte) (s : State) : State × Reply :=
  match sideOf (natAt payload 0 1) with
  | none => (s, .range 1)
  | some d => ({ s with bays := { s.bays with active := d } }, .ok [])

/-- SELECT_BAY (R102). -/
def execSelectBay (p : Port) (s : State) : Result := grantRequest .selectBay p none selectBayWork s

/-! ### ASSIGN_TRUCK (R107) -/

/-- The work of ASSIGN_TRUCK (R107): the same tag answers OK with nothing further (notes/assumptions/18.md). -/
def assignTruckWork (payload : List Byte) (s : State) : State × Reply :=
  let tag := natAt payload 1 3
  match sideOf (natAt payload 0 1) with
  | none => (s, .range 1)
  | some d =>
    if tag = 0 then (s, .range 2)
    else if (s.bay d).load ≠ natAt payload 4 4 then (s, .staleBay (s.bay d).state)
    else if s.heldOpposite d tag then (s, .refuse .state (0x20 + (s.bay d.other).state.code) [])
    else if (s.bay d).tag = some tag then (s, .ok [])
    else
      let acted := s.truckArrives d tag
      (acted, .ok (be 4 (acted.bay d).load ++ boolByte (acted.bay d).ref.isSome))

/-- ASSIGN_TRUCK (R107). -/
def execAssignTruck (p : Port) (s : State) : Result := grantRequest .assignTruck p none assignTruckWork s

/-! ### CLOSE_LOAD (R115) -/

/-- The work of CLOSE_LOAD (R115): the verdict is cancelled, 0, or logged, 1, with the total. The verdict picks the
total out, so no presence byte stands before it (notes/assumptions/15.md; the verdict's numbers, 16.md). R194 gives the
payload's length alone: the bay and then the expected load number are the model's places (39.md). -/
def closeLoadWork (p : Port) (payload : List Byte) (s : State) : State × Reply :=
  match sideOf (natAt payload 0 1) with
  | none => (s, .range 1)
  | some d =>
    let b := s.bay d
    match b.state with
    | .empty => (s, .staleBay b.state)
    | .ready =>
      if b.load = natAt payload 1 4 then (s.modifyBay d Bay.cleared, .ok [0]) else (s, .staleBay b.state)
    | .loading | .topped | .overMax =>
      if b.load = natAt payload 1 4 then (s.closeLoad d (.close p), .ok (1 :: be 3 b.total))
      else (s, .staleBay b.state)

/-- CLOSE_LOAD (R115). -/
def execCloseLoad (p : Port) (s : State) : Result := grantRequest .closeLoad p none (closeLoadWork p) s

/-! ### SET_LOAD_TARGET (R116) -/

/-- The work of SET_LOAD_TARGET (R116; the fields that fail first, notes/assumptions/19.md). R194 gives the payload's
length alone and no rule orders a request's arguments. The model's choice: bay, expected load number, target and max,
as R116 writes them, at bytes 0, 1, 5 and 7 (notes/assumptions/39.md). -/
def setLoadTargetWork (payload : List Byte) (s : State) : State × Reply :=
  let target := natAt payload 5 2
  let max := natAt payload 7 2
  match sideOf (natAt payload 0 1) with
  | none => (s, .range 1)
  | some d =>
    if !targetOk target then (s, .range 2)
    else if !maxOk target max then (s, .range 3)
    else if (s.bay d).state = .empty ∨ (s.bay d).load ≠ natAt payload 1 4 then (s, .staleBay (s.bay d).state)
    else
      let set := s.modifyBay d fun b => ({ b with target := target, max := max }).restate
      (set, .ok (be 1 (set.bay d).state.code))

/-- SET_LOAD_TARGET (R116). -/
def execSetLoadTarget (p : Port) (s : State) : Result := grantRequest .setLoadTarget p none setLoadTargetWork s

end Sys2Proof.Machine
end

