-- ==== Sys2Proof/Config.lean ====
section
/-! DEFINITION. What the manual leaves open. Each constant here has no body: nothing can be proved of its value,
so a claim about the model holds whatever a part does. Both are applied to `State.openChoice`, a plain counter
that moves on each time one is asked (notes/assumptions/10.md). -/

namespace Sys2Proof.Config

/-- Does an abort by a newly faulted role (R45) come before the rest of what its record does (R22)? The manual states
no order. The value decides whether the record is taken with capture disarmed or still armed: which of an abort and
the end of a capture lift comes first (R44), whether a record in WEIGH at the upper angle stays or ends the window
(R27), and whether one that stays in WEIGH is a weighing sweep, which the fault abandons, or a capture sweep (R28,
R53). DESIGN CHOICE, safe: a free value (notes/assumptions/8.md). -/
opaque abortBeforeLiftEnd : Nat → Bool

/-- Do the tag events of a sweep (R13) arrive at the arbiter before the outcomes of its record (R22)? The manual
hands both on at the end of the sweep and states no order between them.
DESIGN CHOICE, safe: a free value (notes/assumptions/9.md). -/
opaque tagsBeforeOutcomes : Nat → Bool

end Sys2Proof.Config
end

