-- ==== Sys2Proof/Machine/Tracker.lean ====
section
/-! DEFINITION. The cycle tracker (chapter 2): how it takes a sweep record, and what it does when the supply enters
LOW. -/

namespace Sys2Proof.Machine

/-- Change the tracker. -/
def State.modifyTracker (s : State) (f : Tracker → Tracker) : State := { s with tracker := f s.tracker }

/-- Change the window accumulator. -/
def State.modifyAcc (s : State) (f : Accumulator → Accumulator) : State :=
  { s with weigh := { s.weigh with acc := f s.weigh.acc } }

/-- The window accumulator becomes empty: a clear or a discard (R53). -/
def State.emptyAcc (s : State) : State := s.modifyAcc fun _ => Accumulator.empty

/-- The capture bin accumulators become empty (R45, R80). -/
def State.emptyCaptureBins (s : State) : State := { s with weigh := { s.weigh with bins := emptyBins } }

/-- The bins become empty when a capture is armed (R23, R45). -/
def State.discardCapture (s : State) : State := if s.tracker.capture.isSome then s.emptyCaptureBins else s

/-- A cycle is in progress (R21). -/
def CycleState.inProgress : CycleState → Bool
  | .lift | .weigh | .carry => true
  | .idle | .dig | .ret | .check => false

/-- A weighing may be in progress: WEIGH or CHECK (R29, R40, R80, R87, R91). -/
def CycleState.weighing : CycleState → Bool
  | .weigh | .check => true
  | .idle | .dig | .lift | .carry | .ret => false

/-- Both overload-risk flags clear (R23, R31, R33, R80). -/
def Tracker.clearOverload (t : Tracker) : Tracker := { t with overload := ⟨false, false⟩ }

/-! ### The role gate (R23) -/

/-- A record in which BOOM or BUCKET is unusable sends the tracker to IDLE; a cycle in progress is lost (R23). The
cycle timer stops, which in the model is what IDLE says of it (R26). -/
def State.forcedIdle (s : State) : State :=
  let idle := (s.discardCapture.emptyAcc).modifyTracker fun t =>
    { t.clearOverload with cycle := .idle, prevBoom := none, held := none, residuePending := false, returnOf := none }
  if s.tracker.cycle.inProgress then idle.hand .lostCycle else idle

/-! ### The dump (R33 to R36, R38, R45) -/

/-- The bay choice (R34). -/
def bayChoice (f : Profile) (r : SweepRecord) : BayChoice :=
  if f.mode = .double ∧ r.steer.usable then
    if (f.deadband : Int) ≤ r.steer.number then .side .left
    else if r.steer.number ≤ -(f.deadband : Int) then .side .right
    else .active
  else .active

/-- A bucket at or below the dump angle is a dump in LIFT, WEIGH or CARRY, and ends a check in CHECK (R22, step 2). -/
def CycleState.dumps : CycleState → Bool
  | .lift | .weigh | .carry | .check => true
  | .idle | .dig | .ret => false

/-- A dump in LIFT, WEIGH or CARRY (R33): RETURN, the accumulation discarded, the flags cleared, the held result
consumed. It is a truck dump from CARRY, at or above the truck angle, with a held result, and a pile dump otherwise;
an armed capture keeps waiting with its bins discarded (R45). The truck dump is numbered, so that its reference finds
the RETURN that followed it (R35). -/
def State.dump (s : State) (r : SweepRecord) : State :=
  let f := s.cal.profile
  let dumped := (s.discardCapture.emptyAcc).modifyTracker fun t =>
    { t.clearOverload with cycle := .ret, held := none, returnOf := none }
  match s.tracker.held with
  | some h =>
    if s.tracker.cycle = .carry ∧ f.truckAngle ≤ r.boom.number then
      (dumped.modifyTracker fun t => { t with dumpNo := t.dumpNo + 1, returnOf := some t.dumpNo }).hand
        (.truckDump h s.tracker.timer (bayChoice f r) s.tracker.dumpNo)
    else dumped.hand (.pileDump s.tracker.timer)
  | none => dumped.hand (.pileDump s.tracker.timer)

/-- A dump seen in CHECK abandons the check (R38). It is not a cycle. -/
def State.abandonCheck (s : State) : State :=
  s.emptyAcc.modifyTracker fun t => { t with cycle := .ret, residuePending := false }

/-! ### Capture (R44, R45) -/

/-- The end of a capture lift (R44): RETURN, a capture outcome with the bins, and capture disarms. -/
def State.endCaptureLift (s : State) : State :=
  match s.tracker.capture with
  | none => s
  | some k =>
    (s.modifyTracker fun t => { t with cycle := .ret, capture := none, returnOf := none }).hand
      (.capture k (some s.weigh.bins))

/-- An abort (R45): the bins are discarded, capture disarms, and a capture outcome marked aborted is handed. -/
def State.abortCapture (s : State) : State :=
  match s.tracker.capture with
  | none => s
  | some k => (s.emptyCaptureBins.modifyTracker fun t => { t with capture := none }).hand (.capture k none)

/-- HEAD, ROD or BOOM is in FAULT or UNBOUND in this record while the previous one showed it in OK or HOLD (R45). -/
def newlyFaulty (prev : Option SweepRecord) (r : SweepRecord) : Bool :=
  match prev with
  | none => false
  | some q => (q.head.usable && r.head.faulty) || (q.rod.usable && r.rod.faulty) || (q.boom.usable && r.boom.faulty)

/-! ### The end of a window (R30, R32, R42) -/

/-- The overload check of one bay (R32). -/
def State.overloadCheck (s : State) (net : Nat) (d : Side) : State :=
  let b := s.bay d
  match b.state with
  | .ready | .loading | .topped =>
    if b.max < b.total + net then
      (s.modifyTracker fun t => { t with overload := t.overload.modify d fun _ => true }).raise (.overload d)
    else s
  | .empty | .overMax => s

/-- The held result marked as having stood through a second window (R30, R64). -/
def WindowResult.reweighed (w : WindowResult) : WindowResult := { w with flags := { w.flags with reweighed := true } }

/-- The held result that stands after a window (R30). -/
def heldAfter (old : Option WindowResult) (w : WindowResult) : WindowResult :=
  match old with
  | none => w
  | some h => if w.flags.unweighed then h.reweighed else w.reweighed

/-- WEIGH to CARRY with a window result: it becomes, replaces or leaves the held result (R30), and a weighed one runs
the overload check for each bay (R32). -/
def State.enterCarry (s : State) : State :=
  let w := s.windowResult
  let carried := s.modifyTracker fun t => { t with cycle := .carry, held := some (heldAfter t.held w) }
  if w.flags.unweighed then carried else (carried.overloadCheck w.net .left).overloadCheck w.net .right

/-- The end of a zeroing lift (R42): RETURN with a zero outcome, or, for a window that is not weighable, CARRY with no
held result and zero still pending. -/
def State.endZeroing (s : State) : State :=
  if s.weigh.acc.weighable s.cal.profile then
    let z := s.weigh.acc.zeroResult
    (s.modifyTracker fun t =>
      { t with cycle := .ret, zeroPending := false, lastZero := some z, returnOf := none }).hand (.zero z)
  else s.modifyTracker fun t => { t with cycle := .carry }

/-- The record that leaves WEIGH at the upper angle with capture disarmed (R27, R30, R42). -/
def State.endWindow (s : State) : State :=
  if s.tracker.zeroPending && s.tracker.held.isNone then s.endZeroing else s.enterCarry

/-! ### The boom transitions (R24, R27, R37, R38) -/

/-- Entry to DIG from IDLE or RETURN: the cycle timer restarts (R24, R26, R37). -/
def State.enterDig (s : State) : State :=
  s.modifyTracker fun t =>
    { t with cycle := .dig, timer := 0, residuePending := false, held := none, returnOf := none }

/-- Change the cycle state only. -/
def State.goTo (s : State) (c : CycleState) : State := s.modifyTracker fun t => { t with cycle := c }

/-- The end of a check lift at the upper angle (R39): a residue outcome when the window is weighable and the residue
reaches the threshold; the check is consumed in each case. -/
def State.endCheck (s : State) : State :=
  let done := s.modifyTracker fun t => { t with cycle := .ret, residuePending := false }
  match s.tracker.dumpRef with
  | some ref =>
    if s.weigh.acc.weighable s.cal.profile ∧ s.cal.profile.residueThreshold ≤ s.residueResult then
      done.hand (.residue s.residueResult ref)
    else done
  | none => done

/-- A return of the carried bucket below the window (R31): both flags clear, and a held result hands a reweigh. -/
def State.startReweigh (s : State) : State :=
  let lifted := s.modifyTracker fun t => { t.clearOverload with cycle := .lift }
  if s.tracker.held.isSome then lifted.hand .reweigh else lifted

/-- The boom transitions of the state tables, on a record in which BOOM and BUCKET are usable (R24, R27, R37, R38). -/
def State.boomTransition (s : State) (boom : Int) : State :=
  let f := s.cal.profile
  match s.tracker.cycle with
  | .idle => if boom < f.digAngle then s.enterDig else s
  | .dig => if f.digAngle ≤ boom then s.goTo .lift else s
  | .lift =>
    if f.loAngle ≤ boom then s.emptyAcc.goTo .weigh
    else if boom < f.digAngle then s.discardCapture.goTo .dig
    else s
  | .weigh =>
    if boom < f.loAngle then s.emptyAcc.goTo .lift
    else if boom < f.hiAngle then s
    else if s.tracker.capture.isSome then s
    else s.endWindow
  | .carry => if boom < f.loAngle then s.startReweigh else s
  | .ret =>
    if boom < f.digAngle then s.enterDig
    else
      match s.tracker.prevBoom with
      | some p =>
        if s.tracker.residuePending ∧ p < f.loAngle ∧ f.loAngle ≤ boom then s.emptyAcc.goTo .check else s
      | none => s
  | .check =>
    if f.hiAngle ≤ boom then s.endCheck
    else if boom < f.loAngle then s.emptyAcc.goTo .ret
    else s

/-! ### Taking a record (R22, R25, R28) -/

/-- The four steps, of which the first that applies decides the change (R22). -/
def State.changeCycle (s : State) (r : SweepRecord) : State :=
  let f := s.cal.profile
  let c := s.tracker.cycle
  if !(r.boom.usable && r.bucket.usable) then
    if c = .idle then s else s.forcedIdle
  else if c.dumps && decide (r.bucket.number ≤ f.dumpAngle) then
    if c = .check then s.abandonCheck else s.dump r
  else if s.tracker.capture.isSome && (c == .lift || c == .weigh) && decide (f.truckAngle ≤ r.boom.number) then
    s.endCaptureLift
  else s.boomTransition r.boom.number

/-- The previous boom takes the record's boom value when BOOM is usable (R25); a record that forces IDLE leaves it
absent (R23). -/
def State.recordBoom (pre : State) (r : SweepRecord) (s : State) : State :=
  let forced := !(r.boom.usable && r.bucket.usable) && pre.tracker.cycle != .idle
  if r.boom.usable && !forced then s.modifyTracker fun t => { t with prevBoom := r.boom.value } else s

/-- A weighing sweep (R28): HEAD, ROD or BOOM in FAULT or UNBOUND abandons the weighing (R29); the accumulator is then
offered the record. R53 lists the abandon and the weighing sweep as two events and no sentence orders them within one
record. The model's choice: the abandon comes first, so the record that abandons finds an abandoned accumulator and is
not counted as skipped (notes/assumptions/38.md). -/
def State.weighingSweep (s : State) (rate : Option Int) (r : SweepRecord) : State :=
  let faulty := r.head.faulty || r.rod.faulty || r.boom.faulty
  s.modifyAcc fun a =>
    (if faulty then a.abandon else a).offer s.cal.active s.cal.profile s.supply.state rate r

/-- The record is directed to the weighing unit (R28), or to the capture bins while a capture was armed as it was
taken (R44). `armed` is the capture mode with which the record was taken. For a record that enters WEIGH or CHECK with
its boom at or above the upper angle the manual says two things: by R27, R28 and R53 it is a weighing sweep that yields
no sample, and by the last sentence of R54 a record at that angle never is one. The model's choice: it follows R28, so
such a record is counted as skipped, or abandons the window by a fault (notes/assumptions/37.md). -/
def State.direct (s : State) (armed : Bool) (rate : Option Int) (r : SweepRecord) : State :=
  match s.tracker.cycle with
  | .check => s.weighingSweep rate r
  | .weigh =>
    if armed then
      { s with weigh := { s.weigh with
          bins := captureSweep s.weigh.bins s.cal.profile s.supply.state rate r } }
    else s.weighingSweep rate r
  | .lift =>
    if armed then
      { s with weigh := { s.weigh with
          bins := captureSweep s.weigh.bins s.cal.profile s.supply.state rate r } }
    else s
  | .idle | .dig | .carry | .ret => s

/-- The change, the previous boom, and the directing of the record (R22). -/
def State.takeSteps (s : State) (r : SweepRecord) : State :=
  let rate := liftRate s.tracker.prevBoom r
  (s.recordBoom r (s.changeCycle r)).direct s.tracker.capture.isSome rate r

/-- The record is remembered for the next one's comparison (R45). -/
def State.remember (s : State) (r : SweepRecord) : State := s.modifyTracker fun t => { t with prevRecord := some r }

/-- The tracker takes a sweep record (R22). When the record also aborts an armed capture (R45), the manual does not
say whether the abort comes before the record is taken, which then finds capture disarmed, or after it. A free value
decides, for a record that ends the capture lift (R44) and for one that does not: in WEIGH at the upper angle an armed
one stays while a disarmed one ends the window (R27), and one that stays in WEIGH is a capture sweep while armed and a
weighing sweep, which the fault abandons, when disarmed (R28, R53; notes/assumptions/8.md). -/
def State.takeRecord (s : State) (r : SweepRecord) : State :=
  if s.tracker.capture.isSome && newlyFaulty s.tracker.prevRecord r then
    let asked := { s with openChoice := s.openChoice + 1 }
    if Config.abortBeforeLiftEnd s.openChoice then (asked.abortCapture.takeSteps r).remember r
    else ((asked.takeSteps r).abortCapture).remember r
  else (s.takeSteps r).remember r

/-! ### The supply enters LOW (R29, R45, R163) -/

/-- The supply monitor reports that the supply has entered LOW: a weighing in progress is abandoned and an armed
capture aborted (R163). -/
def State.supplyLow (s : State) : State :=
  (if s.tracker.cycle.weighing then s.modifyAcc Accumulator.abandon else s).abortCapture

end Sys2Proof.Machine
end

