-- ==== Sys2Proof/Machine/Calibration.lean ====
section
/-! DEFINITION. The calibration store (chapter 4): staging, capture, installation, and the machine profile. -/

namespace Sys2Proof.Machine

/-- Change the calibration store. -/
def State.modifyCal (s : State) (f : Cal → Cal) : State := { s with cal := f s.cal }

/-! ### Field checks -/

/-- The number, counted from 1, of the first check that fails (R179). -/
def firstFailing (checks : List Bool) : Option Nat := (checks.findIdx? fun c => !c).map fun i => i + 1

/-- A figure lies in a range. -/
def inRange (lo hi v : Int) : Bool := decide (lo ≤ v) && decide (v ≤ hi)

/-! ### STAGE_PIECE (R78) and STAGE_FILL (R79) -/

/-- The empty force of the j-th bin of a piece (R194). -/
def pieceEmpty (payload : List Byte) (j : Nat) : Int := intAt payload (1 + 6 * j) 4

/-- The span of the j-th bin of a piece (R194). -/
def pieceSpan (payload : List Byte) (j : Nat) : Nat := natAt payload (5 + 6 * j) 2

/-- The checks of one bin of a piece: its empty force, then its span (R78). -/
def pieceBinChecks (payload : List Byte) (j : Nat) : List Bool :=
  [inRange (-2621400) 2621400 (pieceEmpty payload j), inRange 1 65535 (pieceSpan payload j)]

/-- The checks of a STAGE_PIECE in order: k, then the eight values (R78, R194). -/
def pieceChecks (payload : List Byte) : List Bool :=
  decide (natAt payload 0 1 < 4) :: (List.range 4).flatMap (pieceBinChecks payload)

/-- The staging curve with the four bins of a piece written (R78). -/
def stagePiece (staging : Vector StagingBin 16) (payload : List Byte) : Vector StagingBin 16 :=
  let k := natAt payload 0 1
  Vector.ofFn fun i =>
    if i.val / 4 = k then ⟨pieceEmpty payload (i.val % 4), pieceSpan payload (i.val % 4), true, true⟩ else staging[i]

/-- The work of STAGE_PIECE (R78). -/
def stagePieceWork (payload : List Byte) (s : State) : State × Reply :=
  match firstFailing (pieceChecks payload) with
  | some n => (s, .range n)
  | none => (s.modifyCal fun c => { c with staging := stagePiece c.staging payload }, .ok [])

/-- STAGE_PIECE (R78). -/
def execStagePiece (p : Port) (calen : Bool) (s : State) : Result :=
  grantRequest .stagePiece p (some calen) stagePieceWork s

/-- A staging bin completed from the active curve (R79). -/
def StagingBin.fill (b : StagingBin) (a : CurveBin) : StagingBin where
  empty := if b.eValid then b.empty else a.empty
  span := if b.sValid then b.span else a.span
  eValid := true
  sValid := true

/-- The work of STAGE_FILL (R79). -/
def stageFillWork (_ : List Byte) (s : State) : State × Reply :=
  let missingE := (s.cal.staging.toList.filter fun b => !b.eValid).length
  let missingS := (s.cal.staging.toList.filter fun b => !b.sValid).length
  (s.modifyCal fun c => { c with staging := Vector.ofFn fun i => c.staging[i].fill c.active[i] },
    .ok (be 1 missingE ++ be 1 missingS))

/-- STAGE_FILL (R79). -/
def execStageFill (p : Port) (calen : Bool) (s : State) : Result :=
  grantRequest .stageFill p (some calen) stageFillWork s

/-! ### START_CAPTURE (R80) and ABORT_CAPTURE (R86) -/

/-- The capture kind that a request names: the kind is field 1, and the mass, for LOAD, field 2 (R80, R194). -/
def captureKindOf (payload : List Byte) : Except Nat CaptureKind :=
  match natAt payload 0 1 with
  | 0 => .ok .empty
  | 1 =>
    if inRange 500 30000 (natAt payload 1 2) then .ok (.load (natAt payload 1 2)) else .error 2
  | _ => .error 1

/-- A held result in CARRY is discarded, with both overload-risk flags, when a capture is armed (R80). -/
def Tracker.dropHeld (t : Tracker) : Tracker :=
  if t.cycle = .carry ∧ t.held.isSome then { t.clearOverload with held := none } else t

/-- The work of START_CAPTURE (R80); zero pending is the lower-numbered reason (R196). -/
def startCaptureWork (payload : List Byte) (s : State) : State × Reply :=
  match captureKindOf payload with
  | .error n => (s, .range n)
  | .ok kind =>
    if s.tracker.zeroPending then (s, .busy 3)
    else if s.tracker.capture.isSome then (s, .busy 4)
    else if s.tracker.cycle.weighing then (s, .stateTracker s.tracker.cycle)
    else (s.emptyCaptureBins.modifyTracker fun t => { t.dropHeld with capture := some kind }, ⟨.accepted, []⟩)

/-- START_CAPTURE (R80). -/
def execStartCapture (p : Port) (calen : Bool) (s : State) : Result :=
  grantRequest .startCapture p (some calen) startCaptureWork s

/-- The work of ABORT_CAPTURE (R86): the answer says whether a capture was armed. -/
def abortCaptureWork (_ : List Byte) (s : State) : State × Reply :=
  if s.tracker.capture.isSome then
    (s.emptyCaptureBins.modifyTracker fun t => { t with capture := none }, .ok [1])
  else (s, .ok [0])

/-- ABORT_CAPTURE (R86). -/
def execAbortCapture (p : Port) (calen : Bool) (s : State) : Result :=
  grantRequest .abortCapture p (some calen) abortCaptureWork s

/-! ### CAPTURE (R82 to R84) -/

/-- The span of a rise above 0 (R83). -/
def spanOf (mass : Nat) (rise : Int) : Nat := (clamp 1 65535 (floorDiv (mass * 65536) rise)).toNat

/-- The reference empty force of a bin (R83). -/
def reference (staging : StagingBin) (active : CurveBin) : Int :=
  if staging.eValid then staging.empty else active.empty

/-- One bin of a completed capture: the staging bin it leaves and what the report says of it (R82 to R84). -/
def judgeBin (kind : CaptureKind) (b : CaptureBin) (staging : StagingBin) (active : CurveBin) :
    StagingBin × BinReport :=
  if b.count < 2 then (staging, ⟨false, b.count, none, none⟩)
  else
    let force := meanOf b.sum b.count
    match kind with
    | .empty => ({ staging with empty := force, eValid := true }, ⟨true, b.count, some force, none⟩)
    | .load mass =>
      let rise := force - reference staging active
      if 0 < rise then
        ({ staging with span := spanOf mass rise, sValid := true }, ⟨true, b.count, some force, some rise⟩)
      else (staging, ⟨false, b.count, some force, some rise⟩)

/-- The store after a capture outcome: staged bins and a report when it completed, a report alone when it was
aborted (R82 to R84). -/
def Cal.capture (c : Cal) (kind : CaptureKind) (bins : Option (Vector CaptureBin 16)) : Cal :=
  match bins with
  | none => { c with report := some ⟨kind, none⟩ }
  | some bs =>
    { c with
      staging := Vector.ofFn fun i => (judgeBin kind bs[i] c.staging[i] c.active[i]).1
      report := some ⟨kind, some (Vector.ofFn fun i => (judgeBin kind bs[i] c.staging[i] c.active[i]).2)⟩ }

/-- The work of a capture outcome. -/
def captureWork : Item → Option (State → State)
  | .capture kind bins => some fun s => (s.modifyCal fun c => c.capture kind bins).raise .capture
  | .tag _ | .truckDump .. | .pileDump _ | .reweigh | .residue .. | .lostCycle | .zero _ => none

/-- CAPTURE (R82). -/
def execCapture (s : State) : Result := grantItem captureWork s

/-! ### INSTALL_CURVE (R87, R88) -/

/-- The lowest-numbered staging bin that lacks a flag (R87). -/
def incompleteBin (staging : Vector StagingBin 16) : Option Nat :=
  staging.toList.findIdx? fun b => !(b.eValid && b.sValid)

/-- The generation after an installation: it wraps to 1, never to 0 (R88). -/
def nextGeneration (g : Nat) : Nat := if g = 65535 then 1 else g + 1

/-- A staging bin with both flags clear. -/
def StagingBin.unflagged (b : StagingBin) : StagingBin := { b with eValid := false, sValid := false }

/-- The store after an installation (R88). -/
def Cal.install (c : Cal) : Cal :=
  { c with
    active := c.staging.map fun b => ⟨b.empty, b.span⟩
    generation := nextGeneration c.generation
    staging := c.staging.map StagingBin.unflagged }

/-- The BUSY reason of a request that waits for the window and the capture to end, the lowest first (R87, R91,
R196). -/
def Tracker.busyReason (t : Tracker) : Option Nat :=
  if t.capture.isSome then some 4 else if t.cycle.weighing then some 5 else none

/-- The work of INSTALL_CURVE (R87, R88). -/
def installCurveWork (_ : List Byte) (s : State) : State × Reply :=
  match incompleteBin s.cal.staging with
  | some b => (s, .refuse .state (0x30 + b) [])
  | none =>
    match s.tracker.busyReason with
    | some n => (s, .busy n)
    | none => (s.modifyCal Cal.install, .ok (be 2 (nextGeneration s.cal.generation)))

/-- INSTALL_CURVE (R87). -/
def execInstallCurve (p : Port) (calen : Bool) (s : State) : Result :=
  grantRequest .installCurve p (some calen) installCurveWork s

/-! ### SET_PROFILE (R89 to R92) -/

/-- The binding a byte names: an address, or 0xFF for unbound; any other value is out of range (R194). -/
def bindingOf (n : Nat) : Option (Option (Fin 16)) :=
  if h : n < 16 then some (some ⟨n, h⟩) else if n = 0xFF then some none else none

/-- The byte of the i-th binding of a SET_PROFILE payload (R194). -/
def bindingByte (payload : List Byte) (i : Nat) : Nat := natAt payload (37 + i) 1

/-- The check of the i-th binding: an address or unbound, and no address bound to a role before it (R89). -/
def bindingCheck (payload : List Byte) (i : Nat) : Bool :=
  (bindingOf (bindingByte payload i)).isSome &&
    (bindingByte payload i == 0xFF || (List.range i).all fun j => bindingByte payload j != bindingByte payload i)

/-- The checks of fields 1 to 22, in the order of R89. -/
def fieldChecks (payload : List Byte) (materials : Vector Material 16) : List Bool :=
  let period := natAt payload 0 1
  let dig := intAt payload 5 2
  let lo := intAt payload 7 2
  let hi := intAt payload 9 2
  let truck := intAt payload 11 2
  let rateMin := natAt payload 15 1
  let rateMax := natAt payload 16 1
  let target := natAt payload 27 2
  let material := natAt payload 31 1
  let origin := intAt payload 32 2
  let step := natAt payload 34 2
  [period == 10 || period == 20 || period == 40,
    inRange 1 65535 (natAt payload 1 2),
    inRange 0 65535 (natAt payload 3 2),
    inRange (-4500) 6000 dig,
    inRange (-4500) 6000 lo && decide (dig < lo),
    inRange (-4500) 6000 hi && decide (lo + 500 ≤ hi),
    inRange (-4500) 6000 truck && decide (hi < truck),
    inRange (-9000) 0 (intAt payload 13 2),
    inRange 1 200 rateMin,
    inRange 1 200 rateMax && decide (rateMin < rateMax),
    inRange 2 64 (natAt payload 17 1),
    inRange 50 5000 (natAt payload 18 2),
    inRange 50 2000 (natAt payload 20 2),
    inRange 0 2000 (natAt payload 22 2),
    inRange 0 1 (natAt payload 24 1),
    inRange 500 30000 (natAt payload 25 2),
    inRange 1000 60000 target,
    inRange 1000 60000 (natAt payload 29 2) && decide (target ≤ natAt payload 29 2),
    if h : material < 16 then materials[material].density != 0 else false,
    inRange (-4500) 0 origin,
    inRange 100 800 step && decide (origin + 15 * step ≤ 9000),
    inRange 0 3 (natAt payload 36 1)]

/-- All thirty checks of a SET_PROFILE, in order (R89, R90). -/
def profileChecks (payload : List Byte) (materials : Vector Material 16) : List Bool :=
  fieldChecks payload materials ++ (List.range 8).map (bindingCheck payload)

/-- The i-th binding of a payload whose checks have passed. -/
def bindingAt (payload : List Byte) (i : Nat) : Option (Fin 16) := (bindingOf (bindingByte payload i)).getD none

/-- The profile that a payload carries, in the order and widths of R194; read once its checks have passed. -/
def profileOf (payload : List Byte) : Profile where
  sweepPeriod := natAt payload 0 1
  headArea := natAt payload 1 2
  rodArea := natAt payload 3 2
  digAngle := intAt payload 5 2
  loAngle := intAt payload 7 2
  hiAngle := intAt payload 9 2
  truckAngle := intAt payload 11 2
  dumpAngle := intAt payload 13 2
  rateMin := natAt payload 15 1
  rateMax := natAt payload 16 1
  minSamples := natAt payload 17 1
  spreadLimit := natAt payload 18 2
  residueThreshold := natAt payload 20 2
  deadband := natAt payload 22 2
  mode := if natAt payload 24 1 = 0 then .double else .single
  volume := natAt payload 25 2
  defTarget := natAt payload 27 2
  defMax := natAt payload 29 2
  defMaterial := Fin.ofNat 16 (natAt payload 31 1)
  origin := intAt payload 32 2
  step := natAt payload 34 2
  warnLevel := Fin.ofNat 4 (natAt payload 36 1)
  binding := ⟨bindingAt payload 0, bindingAt payload 1, bindingAt payload 2, bindingAt payload 3,
    bindingAt payload 4, bindingAt payload 5, bindingAt payload 6, bindingAt payload 7⟩

/-- The profile is replaced; a change of origin or bin step clears every staging flag (R91, R92). -/
def Cal.setProfile (c : Cal) (f : Profile) : Cal :=
  { c with
    profile := f
    staging :=
      if f.origin = c.profile.origin ∧ f.step = c.profile.step then c.staging
      else c.staging.map StagingBin.unflagged }

/-- The work of SET_PROFILE (R90 to R92). -/
def setProfileWork (payload : List Byte) (s : State) : State × Reply :=
  match firstFailing (profileChecks payload s.materials) with
  | some n => (s, .range n)
  | none =>
    match s.tracker.busyReason with
    | some n => (s, .busy n)
    | none => (s.modifyCal fun c => c.setProfile (profileOf payload), .ok [])

/-- SET_PROFILE (R90). -/
def execSetProfile (p : Port) (calen : Bool) (s : State) : Result :=
  grantRequest .setProfile p (some calen) setProfileWork s

end Sys2Proof.Machine
end

