-- ==== Sys2Proof/Machine/Link.lean ====
section
/-! DEFINITION. The sensor link controller (chapter 1): transactions, the presence map, role states, sweeps and the
node-access slots, with the requests that act on the slots. -/

namespace Sys2Proof

/-- The eight roles in the order of R5. -/
def Role.all : List Role := [Role.head, .rod, .boom, .bucket, .pitch, .steer, .tagL, .tagR]

/-- The node type a role expects (R5). -/
def Role.expects : Role → NodeType
  | .head | .rod => .pressure
  | .boom | .bucket | .steer => .angle
  | .pitch => .incline
  | .tagL | .tagR => .tag

/-- The range of a measurement role (R5); none for a tag role. -/
def Role.range : Role → Option (Int × Int)
  | .head | .rod => some (0, 40000)
  | .boom => some (-4500, 6000)
  | .bucket => some (-9000, 9000)
  | .pitch => some (-2000, 2000)
  | .steer => some (-4500, 4500)
  | .tagL | .tagR => none

/-- The side of a tag role (R13). -/
def Role.side : Role → Option Side
  | .tagL => some .left
  | .tagR => some .right
  | .head | .rod | .boom | .bucket | .pitch | .steer => none

/-- An answer frame counts as received: in time, whole, and from the address commanded (R1). -/
def NodeAnswer.received (a : NodeAnswer) (address : Fin 16) : Bool :=
  decide (a.micros ≤ 100) && a.checkOk && a.address == address

end Sys2Proof

namespace Sys2Proof.Machine

/-! ### Reaching the link controller -/

/-- Change the link controller. -/
def State.modifyLink (s : State) (f : Link → Link) : State := { s with link := f s.link }

/-! ### The presence map (R3) -/

/-- An answered transaction makes the address present with the type reported (R3). -/
def Link.answered (l : Link) (address : Fin 16) (type : NodeType) : Link :=
  { l with presence := l.presence.set address ⟨true, some type, 0⟩ }

/-- An entry whose probe went unanswered: the third in a row makes it not present (R3). -/
def Presence.probeMissed (e : Presence) : Presence :=
  if e.missed + 1 < 3 then { e with missed := e.missed + 1 } else ⟨false, none, 0⟩

/-- An unanswered probe of an address (R3). -/
def Link.probeMissed (l : Link) (address : Fin 16) : Link :=
  { l with presence := l.presence.set address l.presence[address].probeMissed }

/-! ### What a role read brings (R6) -/

/-- The result of a role read: a good answer with the role value and its over-range marker (a tag role has none),
a bad answer, or a miss (R6). -/
inductive ReadResult where
  | good (value : Option Int) (marked : Bool)
  | bad
  | miss
  deriving DecidableEq, Repr

/-- The limit of a range nearer to a value, the upper one when they are equally near (R6). -/
def nearerLimit (lo hi v : Int) : Int := if (v - lo).natAbs < (v - hi).natAbs then lo else hi

/-- The role value of a good answer, with its marker (R6). -/
def roleValue (lo hi : Int) (status : NodeStatus) (v : Int) : Int × Bool :=
  if status = .overrange then (nearerLimit lo hi v, true)
  else (clamp lo hi v, decide (v < lo) || decide (hi < v))

/-- Judge a received answer for a role (R6). -/
def judge (role : Role) (a : ReadAnswer) : ReadResult :=
  if a.node.type = role.expects ∧ a.node.status ≠ .fault then
    match role.range with
    | some (lo, hi) =>
      .good (some (roleValue lo hi a.node.status a.value).1) (roleValue lo hi a.node.status a.value).2
    | none => .good none false
  else .bad

/-- Judge the end of a role read (R1, R6). -/
def readResult (role : Role) : Option ReadAnswer → ReadResult
  | none => .miss
  | some a => judge role a

/-! ### Role states (R7, R8) -/

/-- Entry to FAULT (R8). -/
def RoleRec.enterFault (r : RoleRec) : RoleRec :=
  { r with state := .fault, misses := 0, recoveries := 0, lastGood := none }

/-- Entry to OK, or staying there, with a role value (R7, R8). -/
def RoleRec.enterOk (r : RoleRec) (value : Option Int) : RoleRec :=
  { r with state := .ok, misses := 0, recoveries := 0, lastGood := value }

/-- The move of a role on a read result (R7, R8). An unbound role is not read. -/
def RoleRec.after (r : RoleRec) (res : ReadResult) : RoleRec :=
  match r.state, res with
  | .unbound, _ => r
  | .ok, .good v _ => r.enterOk v
  | .ok, .miss => { r with state := .hold, misses := 1 }
  | .ok, .bad => r.enterFault
  | .hold, .good v _ => r.enterOk v
  | .hold, .miss => if r.misses + 1 < 3 then { r with misses := r.misses + 1 } else r.enterFault
  | .hold, .bad => r.enterFault
  | .fault, .good v _ =>
    if r.recoveries + 1 < 5 then { r with recoveries := r.recoveries + 1 } else r.enterOk v
  | .fault, .miss => { r with recoveries := 0 }
  | .fault, .bad => { r with recoveries := 0 }

/-- SENSOR is raised when a role enters FAULT from any other state or leaves it for any other (R9). -/
def sensorDue (pre post : RoleState) : Bool := (pre == .fault) != (post == .fault)

/-- A role takes a new record, and SENSOR is raised for it where R9 says so. -/
def State.setRole (s : State) (role : Role) (rec' : RoleRec) : State :=
  let moved := s.modifyLink fun l => { l with roles := l.roles.modify role fun _ => rec' }
  if sensorDue (s.link.roles.get role).state rec'.state then moved.raise (.sensor role) else moved

/-! ### The start of a sweep (R10, R11) -/

/-- A role at the start of a sweep: one whose address changed is placed anew (R10). -/
def RoleRec.rebound (r : RoleRec) (bound : Option (Fin 16)) : RoleRec :=
  if r.bound = bound then r else RoleRec.placed bound

/-- Every role takes the binding in force, in the order of R5 (R10). -/
def State.rebind (s : State) (binding : Roles (Option (Fin 16))) : State :=
  Role.all.foldl (fun t role => t.setRole role ((t.link.roles.get role).rebound (binding.get role))) s

/-- The reads of a sweep: the bound roles, in the order of R11. -/
def Link.readOrder (l : Link) : List Role := Role.all.filter fun r => (l.roles.get r).bound.isSome

/-- SWEEP_START (R10, R11): the binding and the period of the profile come into force and the sweep begins. While a
sweep is in progress none starts (R11; notes/assumptions/1.md). -/
def execSweepStart (s : State) : Result :=
  if s.power = .running ∧ s.link.sweep = none then
    let bound := s.rebind s.cal.profile.binding
    .next (bound.modifyLink fun l =>
      { l with
        period := s.cal.profile.sweepPeriod
        sweep := some ⟨s.clock, l.readOrder, none, Roles.all false, []⟩ })
  else .next s

/-! ### READ_VALUE (R6 to R9, R13) -/

/-- The tag a reader's answer brings: read-held, good, and the role in OK once it has been applied (R13). -/
def fetchedTag (role : Role) (after : RoleRec) (res : ReadResult) (a : ReadAnswer) : Option TagEvent :=
  match role.side, res with
  | some side, .good _ _ => if a.held ∧ after.state = .ok then some ⟨side, a.tag.toNat⟩ else none
  | _, _ => none

/-- A tag of 0 is counted; any other waits for the end of the sweep (R13). -/
def Link.takeTag (l : Link) (sw : Sweep) : Option TagEvent → Link
  | none => { l with sweep := some sw }
  | some e =>
    if e.tag = 0 then { l with sweep := some sw, zeroTags := satAdd max16 l.zeroTags 1 }
    else { l with sweep := some { sw with tags := sw.tags ++ [e] } }

/-- The over-range marker a read leaves (R6, R7). -/
def ReadResult.marker : ReadResult → Bool
  | .good _ m => m
  | .bad | .miss => false

/-- A role's READ_VALUE at an address ends (R1, R3, R6 to R9, R13). -/
def State.readEnds (s : State) (sw : Sweep) (rest : List Role) (role : Role) (address : Fin 16)
    (reply : Option ReadAnswer) : State :=
  let heard := reply.filter fun a => a.node.received address
  let seen := match heard with
    | none => s
    | some a => s.modifyLink fun l => l.answered address a.node.type
  let res := readResult role heard
  let after := (s.link.roles.get role).after res
  let swept := { sw with toRead := rest, marked := sw.marked.modify role fun _ => res.marker }
  (seen.setRole role after).modifyLink fun l => l.takeTag swept (heard.bind (fetchedTag role after res))

/-- READ_VALUE (R7): the transaction of the role whose turn it is in the sweep ends. -/
def execReadValue (role : Role) (reply : Option ReadAnswer) (s : State) : Result :=
  if s.power = .running then
    match s.link.sweep with
    | none => .next s
    | some sw =>
      match sw.toRead, (s.link.roles.get role).bound with
      | r :: rest, some address => if r = role then .next (s.readEnds sw rest role address reply) else .next s
      | _, _ => .next s
  else .next s

/-! ### The end of a sweep (R11 to R13, R20) -/

/-- One role in the sweep record (R12): its last good value when OK or HOLD. -/
def readingOf (l : Link) (sw : Sweep) (role : Role) : RoleReading :=
  let r := l.roles.get role
  ⟨r.state, match r.state with
    | .ok | .hold => r.lastGood
    | .fault | .unbound => none, sw.marked.get role⟩

/-- The sweep record (R12). -/
def sweepRecord (l : Link) (sw : Sweep) : SweepRecord where
  time := sw.start
  head := readingOf l sw .head
  rod := readingOf l sw .rod
  boom := readingOf l sw .boom
  bucket := readingOf l sw .bucket
  pitch := readingOf l sw .pitch
  steer := readingOf l sw .steer

/-- What a sweep hands to the arbiter: the outcomes of its record and its tag events. The manual states no order
between the two; each list keeps its own order. A free value places the tag events (notes/assumptions/9.md). -/
def mergeItems (choice : Nat) (outcomes tags : List Item) : List Item :=
  let ahead := if Config.tagsBeforeOutcomes choice then (if Config.tagsBeforeOutcomes (choice + 1) then 2 else 1) else 0
  tags.take ahead ++ outcomes ++ tags.drop ahead

/-- The sweep ends: the tracker takes its record, and the outcomes and tag events go to the arbiter (R11 to R13). -/
def State.endSweep (s : State) (sw : Sweep) : State :=
  let waiting := s.arb.items
  let cleared := { s with link := { s.link with sweep := none }, arb := { s.arb with items := [] } }
  let taken := cleared.takeRecord (sweepRecord s.link sw)
  let tags := sw.tags.map Item.tag
  if taken.arb.items = [] ∨ tags = [] then
    { taken with arb := { taken.arb with items := waiting ++ taken.arb.items ++ tags } }
  else
    { taken with
      arb := { taken.arb with items := waiting ++ mergeItems taken.openChoice taken.arb.items tags }
      openChoice := taken.openChoice + 2 }

/-! ### PROBE (R3, R4) and the node-access position (R15) -/

/-- A slot is ARMED. -/
def Slot.isArmed : Slot → Bool
  | .armed _ => true
  | .free | .done _ _ => false

/-- The slot to serve: with both ARMED, the one other than the slot served last (R15). -/
def Link.toServe (l : Link) : Option (Fin 2) :=
  let other : Fin 2 := 1 - l.lastServed
  if l.slots[other].isArmed then some other
  else if l.slots[l.lastServed].isArmed then some l.lastServed
  else none

/-- The sweep's probe ends: the presence map moves, the pointer advances, and the sweep goes on to its node access or
ends (R3, R4, R11, R15). -/
def State.probeEnds (s : State) (sw : Sweep) (reply : Option NodeAnswer) : State :=
  let address := s.link.probePtr
  let heard := reply.filter fun a => a.received address
  let probed := s.modifyLink fun l =>
    { (match heard with
        | some a => l.answered address a.type
        | none => l.probeMissed address) with probePtr := l.probePtr + 1 }
  match probed.link.toServe with
  | some i => probed.modifyLink fun l => { l with lastServed := i, sweep := some { sw with slot := some i } }
  | none => probed.endSweep sw

/-- PROBE (R3): the sweep's discovery probe, which follows its role reads, ends. -/
def execProbe (reply : Option NodeAnswer) (s : State) : Result :=
  if s.power = .running then
    match s.link.sweep with
    | none => .next s
    | some sw => if sw.toRead = [] ∧ sw.slot = none then .next (s.probeEnds sw reply) else .next s
  else .next s

/-- A slot has been served: it becomes DONE, NODE is raised, and the sweep ends (R11, R15). -/
def State.serveEnds (s : State) (sw : Sweep) (i : Fin 2) (a : Access) (seen : Option NodeType) (r : AccessResult) :
    State :=
  let mapped := match seen with
    | none => s
    | some t => s.modifyLink fun l => l.answered a.address t
  ((mapped.modifyLink fun l => { l with slots := l.slots.set i (.done a r) }).raise .node).endSweep sw

/-- The transaction under service, when a sweep stands at its node access. -/
def State.serving (s : State) : Option (Sweep × Fin 2 × Access) :=
  match s.link.sweep with
  | none => none
  | some sw =>
    match sw.slot with
    | none => none
    | some i =>
      match s.link.slots[i] with
      | .armed a => some (sw, i, a)
      | .free | .done _ _ => none

/-- NODE_READ (R15): the transaction of an ARMED slot with direction read ends. -/
def execNodeRead (reply : Option ItemAnswer) (s : State) : Result :=
  if s.power = .running then
    match s.serving with
    | none => .next s
    | some (sw, i, a) =>
      if a.dir = .read then
        match reply.filter fun b => b.node.received a.address with
        | some b => .next (s.serveEnds sw i a (some b.node.type) (.ack b.node.status b.node.type (some b.value)))
        | none => .next (s.serveEnds sw i a none .noack)
      else .next s
  else .next s

/-- NODE_WRITE (R15): the transaction of an ARMED slot with direction write ends. -/
def execNodeWrite (reply : Option NodeAnswer) (s : State) : Result :=
  if s.power = .running then
    match s.serving with
    | none => .next s
    | some (sw, i, a) =>
      if a.dir = .write then
        match reply.filter fun b => b.received a.address with
        | some b => .next (s.serveEnds sw i a (some b.type) (.ack b.status b.type none))
        | none => .next (s.serveEnds sw i a none .noack)
      else .next s
  else .next s

/-! ### Node-access requests (R14, R16) -/

/-- A direction byte (R194). -/
def directionOf : Nat → Option Direction
  | 0 => some .read
  | 1 => some .write
  | _ => none

/-- A slot is FREE. -/
def Slot.isFree (x : Slot) : Bool := x == .free

/-- The lowest-numbered FREE slot (R14). -/
def Link.freeSlot (l : Link) : Option (Fin 2) :=
  if l.slots[(0 : Fin 2)].isFree then some 0 else if l.slots[(1 : Fin 2)].isFree then some 1 else none

/-- The work of NODE_ACCESS (R14): address, item and direction are checked in that order. -/
def nodeAccessWork (payload : List Byte) (s : State) : State × Reply :=
  let address := natAt payload 0 1
  let item := natAt payload 1 1
  if ha : address < 16 then
    if hi : item < 64 then
      match directionOf (natAt payload 2 1) with
      | none => (s, .range 3)
      | some dir =>
        match s.link.freeSlot with
        | none => (s, .busy 2)
        | some i =>
          let a : Access := ⟨⟨address, ha⟩, ⟨item, hi⟩, dir, BitVec.ofNat 16 (natAt payload 3 2)⟩
          (s.modifyLink fun l => { l with slots := l.slots.set i (.armed a) },
            ⟨.accepted, be 1 i.val⟩)
    else (s, .range 2)
  else (s, .range 1)

/-- NODE_ACCESS (R14). -/
def execNodeAccess (p : Port) (s : State) : Result := grantRequest .nodeAccess p none nodeAccessWork s

/-- The bytes of a slot's transaction (R14, R195). -/
def Access.bytes (a : Access) : List Byte :=
  be 1 a.address.val ++ be 1 a.item.val ++ be 1 a.dir.code ++ be 2 a.value.toNat

/-- The bytes of a slot's result, DONE_ACK 0 and DONE_NOACK 1 in the order of R15 (R16, R195). -/
def AccessResult.bytes : AccessResult → List Byte
  | .ack status type value =>
    0 :: be 1 status.code ++ be 1 (nodeTypeCode (some type)) ++ optional value fun v => be 2 v.toNat
  | .noack => [1]

/-- The work of NODE_RESULT (R16). -/
def nodeResultWork (payload : List Byte) (s : State) : State × Reply :=
  let n := natAt payload 0 1
  if h : n < 2 then
    let i : Fin 2 := ⟨n, h⟩
    match s.link.slots[i] with
    | .done a r => (s.modifyLink fun l => { l with slots := l.slots.set i .free }, .ok (a.bytes ++ r.bytes))
    | .free => (s, .refuse .state (0x10 + Slot.free.code) [])
    | .armed a => (s, .refuse .state (0x10 + (Slot.armed a).code) [])
  else (s, .range 1)

/-- NODE_RESULT (R16). -/
def execNodeResult (p : Port) (s : State) : Result := grantRequest .nodeResult p none nodeResultWork s

end Sys2Proof.Machine
end

