-- ==== Sys2Proof/Machine/Outcomes.lean ====
section
/-! DEFINITION. The grants of tag events and of the tracker's outcomes (R46), and the two requests about the zeroing
lift. -/

namespace Sys2Proof.Machine

/-! ### TAG_EVENT (R104) -/

/-- The work of a tag event. -/
def tagEventWork : Item → Option (State → State)
  | .tag e => some fun s => s.tagEvent e
  | .truckDump .. | .pileDump _ | .reweigh | .residue .. | .lostCycle | .zero _ | .capture .. => none

/-- TAG_EVENT (R104). -/
def execTagEvent (s : State) : Result := grantItem tagEventWork s

/-! ### TRUCK_DUMP (R35, R108) -/

/-- The counters of a truck dump (R35, R153). -/
def Counters.truckDump (c : Counters) (w : WindowResult) (cycleTime : Nat) : Counters :=
  { c with
    cycles := satAdd max32 c.cycles 1
    truckPasses := satAdd max32 c.truckPasses 1
    cycleTimeSum := satAdd max32 c.cycleTimeSum cycleTime
    unweighed := if w.flags.unweighed then satAdd max16 c.unweighed 1 else c.unweighed }

/-- The truck-dump reference comes back to the tracker: it is recorded, and residue check pending is set if the
tracker is still in the RETURN that followed this dump (R35). -/
def Tracker.takeRef (t : Tracker) (ref : DumpRef) (dump : Nat) : Tracker :=
  { t with
    dumpRef := some ref
    residuePending := t.residuePending || (t.cycle == .ret && t.returnOf == some dump) }

/-- The grant of a truck dump (R35, R108 to R111). -/
def State.truckDump (s : State) (w : WindowResult) (cycleTime : Nat) (choice : BayChoice) (dump : Nat) : State :=
  let d := s.resolve choice
  let loaded := s.ensureLoad d
  let committed := loaded.commit d w cycleTime
  (committed.count fun c => c.truckDump w cycleTime).modifyTracker fun t =>
    t.takeRef ⟨d, (loaded.bay d).load, commitIndex (loaded.bay d)⟩ dump

/-- The work of a truck dump outcome. -/
def truckDumpWork : Item → Option (State → State)
  | .truckDump w cycleTime choice dump => some fun s => s.truckDump w cycleTime choice dump
  | .tag _ | .pileDump _ | .reweigh | .residue .. | .lostCycle | .zero _ | .capture .. => none

/-- TRUCK_DUMP (R108). -/
def execTruckDump (s : State) : Result := grantItem truckDumpWork s

/-! ### PILE_DUMP (R36), REWEIGH (R31), LOST_CYCLE (R23) -/

/-- The counters of a pile dump (R36). -/
def Counters.pileDump (c : Counters) (cycleTime : Nat) : Counters :=
  { c with
    cycles := satAdd max32 c.cycles 1
    pileDumps := satAdd max32 c.pileDumps 1
    cycleTimeSum := satAdd max32 c.cycleTimeSum cycleTime }

/-- The work of a pile dump outcome (R36). -/
def pileDumpWork : Item → Option (State → State)
  | .pileDump cycleTime => some fun s => (s.count fun c => c.pileDump cycleTime).raise .pile
  | .tag _ | .truckDump .. | .reweigh | .residue .. | .lostCycle | .zero _ | .capture .. => none

/-- PILE_DUMP (R36). -/
def execPileDump (s : State) : Result := grantItem pileDumpWork s

/-- The work of a reweigh outcome (R31). -/
def reweighWork : Item → Option (State → State)
  | .reweigh => some fun s => s.count fun c => { c with reweighs := satAdd max16 c.reweighs 1 }
  | .tag _ | .truckDump .. | .pileDump _ | .residue .. | .lostCycle | .zero _ | .capture .. => none

/-- REWEIGH (R31). -/
def execReweigh (s : State) : Result := grantItem reweighWork s

/-- The work of a lost cycle outcome (R23). -/
def lostCycleWork : Item → Option (State → State)
  | .lostCycle => some fun s => s.count fun c => { c with lostCycles := satAdd max16 c.lostCycles 1 }
  | .tag _ | .truckDump .. | .pileDump _ | .residue .. | .reweigh | .zero _ | .capture .. => none

/-- LOST_CYCLE (R23). -/
def execLostCycle (s : State) : Result := grantItem lostCycleWork s

/-! ### RESIDUE (R112, R113) -/

/-- The work of a residue outcome. -/
def residueWork : Item → Option (State → State)
  | .residue r ref => some fun s => s.applyResidue r ref
  | .tag _ | .truckDump .. | .pileDump _ | .reweigh | .lostCycle | .zero _ | .capture .. => none

/-- RESIDUE (R112). -/
def execResidue (s : State) : Result := grantItem residueWork s

/-! ### ZERO (R43) -/

/-- The work of a zero outcome: an accepted mean becomes the zero trim (R43). -/
def zeroWork : Item → Option (State → State)
  | .zero z => some fun s =>
    (if z.accepted then { s with weigh := { s.weigh with zeroTrim := z.mean } } else s).raise .zero
  | .tag _ | .truckDump .. | .pileDump _ | .reweigh | .residue .. | .lostCycle | .capture .. => none

/-- ZERO (R43). -/
def execZero (s : State) : Result := grantItem zeroWork s

/-! ### ZERO_BUCKET (R40) and CANCEL_ZERO (R41) -/

/-- The work of ZERO_BUCKET (R40); zero pending is the lower-numbered reason (R196). -/
def zeroBucketWork (_ : List Byte) (s : State) : State × Reply :=
  if s.tracker.zeroPending then (s, .busy 3)
  else if s.tracker.capture.isSome then (s, .busy 4)
  else if s.tracker.cycle.weighing then (s, .stateTracker s.tracker.cycle)
  else (s.modifyTracker fun t => { t with zeroPending := true }, ⟨.accepted, []⟩)

/-- ZERO_BUCKET (R40). -/
def execZeroBucket (p : Port) (s : State) : Result := grantRequest .zeroBucket p none zeroBucketWork s

/-- The work of CANCEL_ZERO (R41). -/
def cancelZeroWork (_ : List Byte) (s : State) : State × Reply :=
  (s.modifyTracker fun t => { t with zeroPending := false }, .ok [])

/-- CANCEL_ZERO (R41). -/
def execCancelZero (p : Port) (s : State) : Result := grantRequest .cancelZero p none cancelZeroWork s

end Sys2Proof.Machine
end

