-- ==== Sys2Proof/WellFormed.lean ====
section
/-! DEFINITION. Which commands could stand for something that happens: the bounds of the operands that their types
do not give. `exec` is total and does not ask; the check is for senders. -/

namespace Sys2Proof

/-- A read answer carries only the fields of its own node type (R2). -/
def ReadAnswer.wf (a : ReadAnswer) : Bool :=
  match a.node.type with
  | .tag => a.value == 0
  | _ => !a.held && a.tag == 0

/-- A payload is 0 to 480 bytes (R169). -/
def Frame.wf (f : Frame) : Bool := f.payload.length ≤ 480

/-- A length ends a frame when it is below 2 or above 482 (R170); only the Fleet port has stop bits (R172). -/
def DiscardCause.wf (p : Port) : DiscardCause → Bool
  | .length n => decide (n.toNat < 2) || decide (482 < n.toNat)
  | .brokenByte => p == .fleet

/-- The operands of a command are within the bounds the manual gives them. -/
def Instr.wf : Instr → Bool
  | .readValue _ (some a) => a.wf
  | .frameArrival _ f => f.wf
  | .frameDiscard p c => c.wf p
  | .supplyMeasurement v => v ≤ 400
  | .answerSent x => 1 ≤ x.bytes
  | .powerOnReset | .powerCollapse | .pinReset | .pinResetRelease | .sweepStart | .readValue _ none
  | .probe _ | .nodeRead _ | .nodeWrite _ | .tagEvent | .truckDump | .pileDump | .reweigh | .lostCycle
  | .residue | .zero | .capture | .cabCsNRise | .frameGapTimeout | .viewLive _ | .viewBay _
  | .viewTruck _ | .viewMaterial _ | .viewCounters _ | .nextRecord _ | .viewNodes _ | .viewCurve _
  | .viewProfile _ | .viewPort _ | .viewPart _ _ | .collectNotices _ | .setNotices _ | .takeSnapshot _
  | .selectBay _ | .assignTruck _ | .closeLoad _ | .setLoadTarget _ | .zeroBucket _ | .cancelZero _
  | .endShift _ | .restoreSnapshot _ | .writeTruck _ | .dropTruck _ | .writeMaterial _ | .setTime _
  | .nodeAccess _ | .nodeResult _ | .stagePiece _ _ | .stageFill _ _ | .startCapture _ _
  | .abortCapture _ _ | .installCurve _ _ | .setProfile _ _ | .clockTick | .paceTimerExpiry _
  | .syncByteReceived _ | .cabCsNFall => true

end Sys2Proof
end

