-- ==== Sys2Proof/Machine/PortEvents.lean ====
section
/-! DEFINITION. The receivers and senders of the two ports (R169 to R174) and the pace timers (R185). -/

namespace Sys2Proof.Machine

/-! ### What a port can do now -/

/-- Bytes move on a port: on the Cab port only within a chip-select period (R171). -/
def State.portOpen (s : State) (p : Port) : Bool :=
  s.power == .running && (p == .fleet || s.pins.csLow)

/-- A frame is counted as discarded (R173). -/
def PortBlock.countDiscard (b : PortBlock) : PortBlock := { b with discarded := satAdd max16 b.discarded 1 }

/-- How many bytes behind its sync an assembler has gathered. -/
def Assembler.gathered : Assembler → Nat
  | .hunting => 0
  | .assembling g => g

/-- A partial frame is discarded and counted, and the assembler returns to hunting (R170). -/
def PortBlock.breakFrame (b : PortBlock) : PortBlock :=
  match b.assembler with
  | .hunting => b
  | .assembling _ => { b.countDiscard with assembler := .hunting }

/-! ### The bytes a port sends (R171, R172, R174) -/

/-- The bytes that a port has still to send: those of the answers in its buffer, oldest first, without the bytes of
the oldest that have gone out (R171, R174). -/
def PortBlock.unsent (b : PortBlock) : List Byte := (b.answers.flatMap Answer.bytes).drop b.sent

/-- The bytes that go out when a port sends `n`: the next bytes of its answers and, on the Cab port alone, the filler
0x00 when there is none (R171, R172). -/
def PortBlock.bytesOut (b : PortBlock) (p : Port) (n : Nat) : List Byte :=
  b.unsent.take n ++ match p with
    | .cab => List.replicate (n - b.unsent.length) 0x00
    | .fleet => []

/-- What is left of an answer buffer when `k` bytes from its beginning have gone out, with how many of them are the
oldest answer's: an answer leaves when its last check byte has been sent (R174). -/
def leftAfter : Nat → List Answer → List Answer × Nat
  | _, [] => ([], 0)
  | k, a :: rest => if k < a.size then (a :: rest, k) else leftAfter (k - a.size) rest

/-- A port sends `n` bytes (R171, R172, R174). -/
def PortBlock.send (b : PortBlock) (p : Port) (n : Nat) : PortBlock :=
  let left := leftAfter (b.sent + n) b.answers
  { b with answers := left.1, sent := left.2, out := b.bytesOut p n }

/-- A port receives `n` bytes: every byte clocked into the Cab port is also a byte clocked out (R171); the Fleet port's
two directions are independent (R172). -/
def PortBlock.receive (b : PortBlock) (p : Port) (n : Nat) : PortBlock :=
  match p with
  | .cab => b.send .cab n
  | .fleet => b

/-- The byte that the part clocks out next on CAB_MISO, which it drives only within a chip-select period (R171) and not
while a reset holds it (R186). -/
def State.cabMiso (s : State) : Option Byte :=
  if s.portOpen .cab then some ((s.port .cab).unsent.headD 0x00) else none

/-! ### SYNC_BYTE_RECEIVED (R170) -/

/-- SYNC_BYTE_RECEIVED (R170): a hunting assembler begins a frame. In an assembling one the byte is one of the frame's
and begins nothing. -/
def execSyncByteReceived (p : Port) (s : State) : Result :=
  match (s.port p).assembler with
  | .hunting =>
    if s.portOpen p then .next (s.modifyPort p fun b => { b.receive p 1 with assembler := .assembling 0 }) else .next s
  | .assembling _ => .next s

/-! ### FRAME_ARRIVAL (R173) -/

/-- A refusal at arrival: it is counted, and answered unless the answer buffer is full (R173). -/
def PortBlock.refuseArrival (b : PortBlock) (a : Answer) : PortBlock :=
  if b.answers.length < 4 then { b.countDiscard with answers := b.answers ++ [a] } else b.countDiscard

/-- The arrival checks of a complete frame: check word, kind, queue (R173). -/
def PortBlock.arrive (b : PortBlock) (f : Frame) : PortBlock :=
  if !f.checkAgrees then b.refuseArrival ⟨f.tag, .refuse .frame 0 []⟩
  else
    match reqKindOf f.kind with
    | none => b.refuseArrival ⟨f.tag, .refuse .unknown f.kind.toNat []⟩
    | some k =>
      if b.queue.length < 4 then { b with queue := b.queue ++ [⟨f.tag, k, f.payload⟩] }
      else b.refuseArrival ⟨f.tag, .busy 1⟩

/-- A partial frame ends with the byte in place `k` behind its sync: the bytes up to there that no earlier command
has gathered are received, and the frame is discarded and counted (R170). An assembler that has gathered more has
passed that place, and nothing happens (notes/assumptions/1.md). -/
def PortBlock.breakAt (b : PortBlock) (p : Port) (k : Nat) : PortBlock :=
  match b.assembler with
  | .hunting => b
  | .assembling g => if g ≤ k then (b.receive p (k - g)).breakFrame else b

/-- A frame completes behind an assembler that has gathered `g` of its bytes: the length, tag, kind, payload and check
word come to its payload's length and 6. The bytes that remain are received first, and the frame is then handed to the
arrival checks (R170, R171, R173; notes/assumptions/40.md). -/
def PortBlock.complete (b : PortBlock) (p : Port) (f : Frame) : PortBlock :=
  match b.assembler with
  | .hunting => b
  | .assembling g =>
    let size := f.payload.length + 6
    if g ≤ size then ({ b.receive p (size - g) with assembler := .hunting } : PortBlock).arrive f else b

/-- FRAME_ARRIVAL (R173): an assembling receiver completes a frame. One whose payload exceeds 480 bytes has a length
above 482, which ends it at once (R170; notes/assumptions/25.md). -/
def execFrameArrival (p : Port) (f : Frame) (s : State) : Result :=
  if s.portOpen p then
    .next (s.modifyPort p fun b => if f.payload.length ≤ 480 then b.complete p f else b.breakAt p 2)
  else .next s

/-! ### Partial frames that end (R170 to R172) -/

/-- FRAME_DISCARD (R170): a length out of range, judged when its two bytes are gathered, or on the Fleet port a broken
byte (R172), ends the frame. -/
def execFrameDiscard (p : Port) (cause : DiscardCause) (s : State) : Result :=
  if s.portOpen p ∧ cause.wf p then
    .next (s.modifyPort p fun b =>
      match cause with
      | .length _ => b.breakAt p 2
      | .brokenByte => b.breakFrame)
  else .next s

/-- FRAME_GAP_TIMEOUT (R172): a gap of more than 20 ms within a Fleet frame. -/
def execFrameGapTimeout (s : State) : Result :=
  if s.portOpen .fleet then .next (s.modifyPort .fleet PortBlock.breakFrame) else .next s

/-- CAB_CS_N_FALL (R171): a chip-select period begins, in which CAB_MISO is driven. -/
def execCabCsNFall (s : State) : Result := .next { s with pins := { s.pins with csLow := true } }

/-- CAB_CS_N_RISE (R171): the period ends, and with it a partial request frame. An answer part-way out stays, with the
count of its bytes that have gone out, so that its next byte is the first sent in the next period. -/
def execCabCsNRise (s : State) : Result :=
  let ended := if s.portOpen .cab then s.modifyPort .cab PortBlock.breakFrame else s
  .next { ended with pins := { ended.pins with csLow := false } }

/-! ### ANSWER_SENT (R171, R172, R174) and the pace timer (R185) -/

/-- The longest that a frame can be behind its sync byte: two length bytes, 482 of them counted, two check bytes
(R169). -/
abbrev longestFrame : Nat := 486

/-- ANSWER_SENT (R171, R172, R174): the port sends so many bytes, and an answer whose last check byte is among them
leaves the buffer; a count that stops short leaves the oldest answer part-way out. On the Cab port the master clocks as
many bytes in, which a hunting assembler skips and an assembling one gathers; where the answers end, fillers go out.
The Fleet port sends no filler, so a count beyond its answers cannot occur (notes/assumptions/40.md). -/
def execAnswerSent (x : Sending) (s : State) : Result :=
  let own := s.port x.port
  if s.portOpen x.port then
    match x.port, own.assembler with
    | .cab, .hunting => .next (s.modifyPort .cab fun b => b.send .cab x.bytes)
    | .cab, .assembling g =>
      if g + x.bytes ≤ longestFrame then
        .next (s.modifyPort .cab fun b => { b.send .cab x.bytes with assembler := .assembling (g + x.bytes) })
      else .next s
    | .fleet, _ =>
      if x.bytes ≤ own.unsent.length then .next (s.modifyPort .fleet fun b => b.send .fleet x.bytes) else .next s
  else .next s

/-- PACE_TIMER_EXPIRY (R185). -/
def execPaceTimerExpiry (p : Port) (s : State) : Result :=
  if s.power = .running then .next (s.modifyPort p fun b => b.modifyPacer Pacer.expire) else .next s

end Sys2Proof.Machine
end

