-- ==== Sys2Proof/Machine/Power.lean ====
section
/-! DEFINITION. The two resets, the supply monitor and the machine clock (chapter 8). -/

namespace Sys2Proof.Machine

/-! ### The power-on reset (R165) -/

/-- Every block at its power-on defaults. The levels of the pins are outside the part and stay; so do the commands
that wait and the model's own counter (notes/assumptions/11.md). -/
def State.powerOnDefaults (s : State) (power : Power) : State :=
  { State.reset with power := power, pins := s.pins, openChoice := s.openChoice, pending := s.pending }

/-- POWER_ON_RESET (R165): while RESET_N is low the part stays in reset until it is released. -/
def execPowerOnReset (s : State) : Result :=
  .next (s.powerOnDefaults (if s.pins.resetLow then .held .powerOn else .running))

/-- POWER_COLLAPSE (R165): every held state is lost; what the part holds without power is not read, and stands at the
defaults (notes/assumptions/11.md). -/
def execPowerCollapse (s : State) : Result := .next (s.powerOnDefaults .off)

/-! ### The pin reset (R166) -/

/-- A port while a reset holds the part: it receives nothing, holds nothing, an answer part-way out is dropped with its
remaining bytes, and its line is deasserted (R186). -/
def PortBlock.hold (b : PortBlock) : PortBlock :=
  { b with assembler := .hunting, queue := [], answers := [], sent := 0, out := [],
           pacer := { b.pacer with line := false } }

/-- RESET_N falls on a running part: the work in progress is dropped (R19, R166, R186). -/
def State.dropWork (s : State) : State :=
  { s with
    power := .held .pin
    link := { s.link with sweep := none }
    arb := { s.arb with items := [] }
    ports := ⟨s.ports.cab.hold, s.ports.fleet.hold⟩ }

/-- PIN_RESET (R166). -/
def execPinReset (s : State) : Result :=
  let low := { s with pins := { s.pins with resetLow := true } }
  match s.power with
  | .running => .next low.dropWork
  | .off | .held _ => .next low

/-- The calibration store after a pin reset (R95). -/
def Cal.pinReset (c : Cal) : Cal := { c with staging := c.staging.map StagingBin.unflagged, report := none }

/-- Every block at its pin-reset values (R19, R48, R73, R95, R124, R144, R160, R164, R166, R186, R193). -/
def State.pinReset (s : State) : State :=
  { s with
    power := .running
    resetRecord := ⟨.pin, s.clock⟩
    link := Link.afterReset s.cal.profile.binding s.cal.profile.sweepPeriod
    tracker := Tracker.afterReset
    weigh := { Weigh.powerOn with zeroTrim := s.weigh.zeroTrim }
    cal := s.cal.pinReset
    bays := Bays.afterReset s.cal.profile s.bays.nextLoad
    log := Log.afterReset
    shift := Shift.afterReset s.shift.number s.clock
    supply := Supply.afterReset
    arb := Arbiter.afterReset
    ports := portsAfterReset }

/-- PIN_RESET_RELEASE (R166): the reset that held the part ends. A power-on reset takes precedence (R165). -/
def execPinResetRelease (s : State) : Result :=
  let high := { s with pins := { s.pins with resetLow := false } }
  match s.power with
  | .held .pin => .next high.pinReset
  | .held .powerOn => .next (high.powerOnDefaults .running)
  | .running | .off => .next high

/-! ### The supply monitor (R161 to R164) -/

/-- The supply warn level in steps of 0.1 V (R89, field 22). -/
def warnVolts (level : Fin 4) : Nat :=
  match level with
  | 0 => 180
  | 1 => 200
  | 2 => 210
  | 3 => 220

/-- The monitor handles one measurement (R162). -/
def Supply.judge (m : Supply) (warn v : Nat) : Supply :=
  match m.state with
  | .normal =>
    if v < warn then
      if m.lowCount + 1 < 3 then { m with lowCount := m.lowCount + 1 }
      else { m with state := .low, lowCount := 0, highCount := 0 }
    else { m with lowCount := 0 }
  | .low =>
    if warn + 10 ≤ v then
      if m.highCount + 1 < 3 then { m with highCount := m.highCount + 1 }
      else { m with state := .normal, lowCount := 0, highCount := 0 }
    else { m with highCount := 0 }

/-- The last VSYS and the minimum since reset take a measurement (R161, R164). -/
def Supply.record (m : Supply) (v : Nat) : Supply := { m with lastVsys := v, minSince := min m.minSince v }

/-- A measurement reaches the monitor and the two minima (R155, R161, R162, R164). -/
def State.measured (s : State) (v : Nat) : State :=
  { s with
    supply := (s.supply.record v).judge (warnVolts s.cal.profile.warnLevel) v
    shift := { s.shift with minVsys := min s.shift.minVsys v } }

/-- SUPPLY is raised on a change of state, and an entry to LOW reaches the tracker (R163). -/
def State.supplyChanged (s : State) (pre : SupplyState) : State :=
  if s.supply.state = pre then s
  else
    match s.supply.state with
    | .low => (s.raise .supply).supplyLow
    | .normal => s.raise .supply

/-- SUPPLY_MEASUREMENT (R161): a voltage above 40.0 V is measured as 400. -/
def execSupplyMeasurement (vsys : Nat) (s : State) : Result :=
  if s.power = .running then .next ((s.measured (min vsys 400)).supplyChanged s.supply.state) else .next s

/-! ### CLOCK_TICK (R26, R167) -/

/-- The cycle timer counts outside IDLE and saturates (R26; notes/assumptions/30.md). -/
def Tracker.tick (t : Tracker) : Tracker :=
  if t.cycle = .idle then t else { t with timer := satAdd max16 t.timer 1 }

/-- CLOCK_TICK (R167): the clock advances and wraps to 0; it counts through a pin reset, and the cycle timer counts
while the part runs (R26). -/
def execClockTick (s : State) : Result :=
  match s.power with
  | .running => .next { s with clock := s.clock + 1, tracker := s.tracker.tick }
  | .held .pin => .next { s with clock := s.clock + 1 }
  | .held .powerOn | .off => .next s

end Sys2Proof.Machine
end

