-- ==== Sys2Proof/Machine/Layouts.lean ====
section
/-! DEFINITION. The records that travel whole (R197, R198): pass entries, bay records, LOAD and SHIFT records, the
profile and the snapshot, as bytes. -/

namespace Sys2Proof.Machine

/-- A pass entry: the residue field is sent when RESIDUE is set (R197). -/
def Pass.bytes (p : Pass) : List Byte :=
  be 1 p.index ++ be 2 p.net ++ be 1 p.fill ++ be 2 p.flags.toNat ++ be 2 p.cycleTime ++ be 4 p.commitTime.toNat ++
    (if p.flags.residue then be 2 (p.residue.getD 0) else [])

/-- The one-byte name of a truck reference: set × 4 + way (R197). -/
def TruckRef.code (r : TruckRef) : Nat := r.set.val * 4 + r.way.val

/-- A field that is sent only when present (R197). -/
def present {α : Type} (x : Option α) (f : α → List Byte) : List Byte :=
  match x with
  | none => []
  | some a => f a

/-- A presence byte of two bits (R197, R198). -/
def presenceByte (bit0 bit1 : Bool) : List Byte := be 1 ((if bit0 then 1 else 0) + (if bit1 then 2 else 0))

/-- A bay record with the truck reference given, which a snapshot leaves out (R187, R197, R198). -/
def Bay.bytes (b : Bay) (ref : Option TruckRef) : List Byte :=
  be 1 b.state.code ++ presenceByte b.tag.isSome ref.isSome ++ be 4 b.load ++ present b.tag (be 3) ++
    present ref (fun r => be 1 r.code) ++ be 1 b.material.val ++ be 2 b.target ++ be 2 b.max ++
    be 4 b.opened.toNat ++ be 4 b.total ++ counted b.passes Pass.bytes

/-- The number of a close reason (R197). -/
def CloseReason.code : CloseReason → Nat
  | .close _ => 0
  | .newTruck => 1

/-- The closing port, for reason CLOSE only (R146). -/
def CloseReason.port : CloseReason → Option Port
  | .close p => some p
  | .newTruck => none

/-- A LOAD record (R197). -/
def LoadRecord.bytes (r : LoadRecord) : List Byte :=
  1 :: be 4 r.load ++ be 1 r.side.code ++ presenceByte r.tag.isSome r.reason.port.isSome ++ present r.tag (be 3) ++
    be 1 r.material.val ++ be 2 r.target ++ be 2 r.max ++ be 4 r.total ++ counted r.nets (be 2) ++
    be 2 r.quality.toNat ++ be 1 r.reason.code ++ present r.reason.port (fun p => be 1 p.code) ++
    be 4 r.opened.toNat ++ be 4 r.closed.toNat ++ be 2 r.shift

/-- The ten counters, in the order and widths of the SHIFT record (R197). -/
def Counters.bytes (c : Counters) : List Byte :=
  be 4 c.cycles ++ be 4 c.truckPasses ++ be 4 c.pileDumps ++ be 4 c.payloadKg ++ be 4 c.cycleTimeSum ++
    be 2 c.reweighs ++ be 2 c.residues ++ be 2 c.unweighed ++ be 2 c.lostCycles ++ be 2 c.loadsClosed

/-- A SHIFT record (R197). -/
def ShiftRecord.bytes (r : ShiftRecord) : List Byte :=
  2 :: be 2 r.number ++ be 4 r.start.toNat ++ be 4 r.ended.toNat ++ be 1 r.port.code ++ r.counters.bytes ++
    be 2 r.minVsys

/-- A record of the log (R197). -/
def LogRecord.bytes : LogRecord → List Byte
  | .load r => r.bytes
  | .shift r => r.bytes

/-- The profile in the order and widths of R194 (R94). -/
def Profile.bytes (f : Profile) : List Byte :=
  be 1 f.sweepPeriod ++ be 2 f.headArea ++ be 2 f.rodArea ++ beInt 2 f.digAngle ++ beInt 2 f.loAngle ++
    beInt 2 f.hiAngle ++ beInt 2 f.truckAngle ++ beInt 2 f.dumpAngle ++ be 1 f.rateMin ++ be 1 f.rateMax ++
    be 1 f.minSamples ++ be 2 f.spreadLimit ++ be 2 f.residueThreshold ++ be 2 f.deadband ++ be 1 f.mode.code ++
    be 2 f.volume ++ be 2 f.defTarget ++ be 2 f.defMax ++ be 1 f.defMaterial.val ++ beInt 2 f.origin ++
    be 2 f.step ++ be 1 f.warnLevel.val ++ be 1 (bindingCode f.binding.head) ++ be 1 (bindingCode f.binding.rod) ++
    be 1 (bindingCode f.binding.boom) ++ be 1 (bindingCode f.binding.bucket) ++
    be 1 (bindingCode f.binding.pitch) ++ be 1 (bindingCode f.binding.steer) ++
    be 1 (bindingCode f.binding.tagL) ++ be 1 (bindingCode f.binding.tagR)

/-- The snapshot record without its check word (R187, R197). -/
def State.snapshotBody (s : State) : List Byte :=
  2 :: be 4 s.clock.toNat ++ be 2 s.shift.number ++ be 4 s.shift.start.toNat ++ s.shift.counters.bytes ++
    be 2 s.shift.minVsys ++ be 4 s.bays.nextLoad ++ beInt 2 s.weigh.zeroTrim ++ be 1 s.bays.active.code ++
    (s.bay .left).bytes none ++ (s.bay .right).bytes none

/-- The snapshot record (R187, R197). -/
def State.snapshot (s : State) : List Byte := s.snapshotBody ++ be 2 (crc16 s.snapshotBody).toNat

end Sys2Proof.Machine
end

