-- ==== Sys2Proof/Machine/Shifts.lean ====
section
/-! DEFINITION. Reading the log and ending a shift (chapter 7), and setting the clock (chapter 8). -/

namespace Sys2Proof.Machine

/-- The shift number after one ends: it wraps to 1, never to 0 (R156). -/
def nextShift (n : Nat) : Nat := if n = max16 then 1 else n + 1

/-- The SHIFT record of the shift that ends (R147). -/
def State.shiftRecord (s : State) (p : Port) : ShiftRecord where
  number := s.shift.number
  start := s.shift.start
  ended := s.clock
  port := p
  counters := s.shift.counters
  minVsys := s.shift.minVsys

/-- The five steps of an accepted END_SHIFT (R156). -/
def State.endShift (s : State) (p : Port) : State :=
  { s.append (.shift (s.shiftRecord p)) with
    shift := ⟨nextShift s.shift.number, s.clock, s.supply.lastVsys, Counters.zero⟩ }

/-- The work of END_SHIFT (R156); STALE carries the current shift number in two bytes (R179, R196). -/
def endShiftWork (p : Port) (payload : List Byte) (s : State) : State × Reply :=
  if natAt payload 0 2 = s.shift.number then (s.endShift p, .ok (be 2 (nextShift s.shift.number)))
  else (s, .refuse .stale 0x80 (be 2 s.shift.number))

/-- END_SHIFT (R156). -/
def execEndShift (p : Port) (s : State) : Result := grantRequest .endShift p none (endShiftWork p) s

/-- The oldest record a port has not read (R151). -/
def Log.oldestUnread (l : Log) (p : Port) : Option LogRecord :=
  if l.unread.get p = 0 then none else l.records[l.records.length - l.unread.get p]?

/-- A port's counts after a read (R151). -/
def Log.afterRead (l : Log) (p : Port) : Log :=
  { l with unread := l.unread.modify p fun u => u - 1, missed := l.missed.modify p fun _ => 0 }

/-- The work of NEXT_RECORD (R151): the record or none, the unread count after the read, and the missed count as it
stood. R151 does not say how 'the indication none' and 'together with its kind' are sent. The model's choice: the
record is a figure that may be absent, so a presence byte stands before it, 1 with a record and 0 for none; its kind
is sent as the record's own first byte (R197) and not a second time (notes/assumptions/15.md). -/
def nextRecordWork (p : Port) (_ : List Byte) (s : State) : State × Reply :=
  ({ s with log := s.log.afterRead p },
    .ok (optional (s.log.oldestUnread p) LogRecord.bytes ++ be 1 (s.log.unread.get p - 1) ++
      be 2 (s.log.missed.get p)))

/-- NEXT_RECORD (R151). -/
def execNextRecord (p : Port) (s : State) : Result := grantRequest .nextRecord p none (nextRecordWork p) s

/-- The work of SET_TIME (R168). -/
def setTimeWork (payload : List Byte) (s : State) : State × Reply :=
  ({ s with clock := BitVec.ofNat 32 (natAt payload 0 4) }, .ok (be 4 s.clock.toNat))

/-- SET_TIME (R168). -/
def execSetTime (p : Port) (s : State) : Result := grantRequest .setTime p none setTimeWork s

end Sys2Proof.Machine
end

