-- ==== Sys2Proof/Machine/Snapshot.lean ====
section
/-! DEFINITION. Snapshot and restore (chapter 10): how a record is read, the checks V1 to V9, and what an accepted
record sets. -/

namespace Sys2Proof.Machine

/-! ### Reading a record field by field (R198) -/

/-- A pass entry as a record carries it. -/
structure RawPass where
  index      : Nat
  net        : Nat
  fill       : Nat
  flags      : Nat
  cycleTime  : Nat
  commitTime : Nat
  residue    : Option Nat
  deriving DecidableEq, Repr

/-- A bay record as a record carries it. -/
structure RawBay where
  state    : Nat
  load     : Nat
  tag      : Option Nat
  material : Nat
  target   : Nat
  max      : Nat
  opened   : Nat
  total    : Nat
  passes   : List RawPass
  deriving DecidableEq, Repr

/-- A snapshot record as it stands in a payload, without its version and check word. -/
structure RawSnapshot where
  clock    : Nat
  number   : Nat
  start    : Nat
  counters : Counters
  minVsys  : Nat
  nextLoad : Nat
  trim     : Int
  active   : Nat
  left     : RawBay
  right    : RawBay
  deriving DecidableEq, Repr

/-- Read the figure in the next `n` bytes; none when the reading runs past the end. -/
def readNat (n : Nat) (bs : List Byte) : Option (Nat × List Byte) :=
  if n ≤ bs.length then some (fromBe (bs.take n), bs.drop n) else none

/-- Read a signed figure in the next `n` bytes. -/
def readInt (n : Nat) (bs : List Byte) : Option (Int × List Byte) :=
  if n ≤ bs.length then some (fromBeInt (bs.take n), bs.drop n) else none

/-- Read a figure that is there only when a presence bit is set. -/
def readOptional (there : Bool) (n : Nat) (bs : List Byte) : Option (Option Nat × List Byte) :=
  if there then (readNat n bs).map fun x => (some x.1, x.2) else some (none, bs)

/-- Read a pass entry: its residue bytes are there when bit 8 of its flags, RESIDUE, is set (R198). -/
def readPass (bs : List Byte) : Option (RawPass × List Byte) := do
  let (index, bs) ← readNat 1 bs
  let (net, bs) ← readNat 2 bs
  let (fill, bs) ← readNat 1 bs
  let (flags, bs) ← readNat 2 bs
  let (cycleTime, bs) ← readNat 2 bs
  let (commitTime, bs) ← readNat 4 bs
  let (residue, bs) ← readOptional (flags.testBit 8) 2 bs
  return (⟨index, net, fill, flags, cycleTime, commitTime, residue⟩, bs)

/-- Read as many pass entries as a count byte says. -/
def readPasses : Nat → List Byte → Option (List RawPass × List Byte)
  | 0, bs => some ([], bs)
  | n + 1, bs => do
    let (p, bs) ← readPass bs
    let (ps, bs) ← readPasses n bs
    return (p :: ps, bs)

/-- Read a bay record: its tag bytes are there when bit 0 of the presence byte is set, and no other bit of it is
heeded (R198). -/
def readBay (bs : List Byte) : Option (RawBay × List Byte) := do
  let (state, bs) ← readNat 1 bs
  let (presence, bs) ← readNat 1 bs
  let (load, bs) ← readNat 4 bs
  let (tag, bs) ← readOptional (presence.testBit 0) 3 bs
  let (material, bs) ← readNat 1 bs
  let (target, bs) ← readNat 2 bs
  let (max, bs) ← readNat 2 bs
  let (opened, bs) ← readNat 4 bs
  let (total, bs) ← readNat 4 bs
  let (count, bs) ← readNat 1 bs
  let (passes, bs) ← readPasses count bs
  return (⟨state, load, tag, material, target, max, opened, total, passes⟩, bs)

/-- Read the ten counters. -/
def readCounters (bs : List Byte) : Option (Counters × List Byte) := do
  let (cycles, bs) ← readNat 4 bs
  let (truckPasses, bs) ← readNat 4 bs
  let (pileDumps, bs) ← readNat 4 bs
  let (payloadKg, bs) ← readNat 4 bs
  let (cycleTimeSum, bs) ← readNat 4 bs
  let (reweighs, bs) ← readNat 2 bs
  let (residues, bs) ← readNat 2 bs
  let (unweighed, bs) ← readNat 2 bs
  let (lostCycles, bs) ← readNat 2 bs
  let (loadsClosed, bs) ← readNat 2 bs
  return (⟨cycles, truckPasses, pileDumps, payloadKg, cycleTimeSum, reweighs, residues, unweighed, lostCycles,
    loadsClosed⟩, bs)

/-- Read a record from its clock to the end of its RIGHT bay. -/
def readSnapshot (bs : List Byte) : Option (RawSnapshot × List Byte) := do
  let (clock, bs) ← readNat 4 bs
  let (number, bs) ← readNat 2 bs
  let (start, bs) ← readNat 4 bs
  let (counters, bs) ← readCounters bs
  let (minVsys, bs) ← readNat 2 bs
  let (nextLoad, bs) ← readNat 4 bs
  let (trim, bs) ← readInt 2 bs
  let (active, bs) ← readNat 1 bs
  let (left, bs) ← readBay bs
  let (right, bs) ← readBay bs
  return (⟨clock, number, start, counters, minVsys, nextLoad, trim, active, left, right⟩, bs)

/-- V2 (R189, R198): the reading ends exactly at the last two bytes, and they hold the CRC-16 of all before them. -/
def framed (payload : List Byte) : Option RawSnapshot :=
  let body := payload.take (payload.length - 2)
  match readSnapshot (body.drop 1) with
  | some (r, []) => if fromBe (payload.drop (payload.length - 2)) = (crc16 body).toNat then some r else none
  | some (_, _ :: _) => none
  | none => none

/-! ### The checks V3 to V9 (R189) -/

/-- V3 for one bay. -/
def RawBay.shapeOk (b : RawBay) : Bool :=
  match bayStateOf b.state with
  | none => false
  | some .empty | some .ready => b.passes.isEmpty
  | some .loading | some .topped | some .overMax => !b.passes.isEmpty && decide (b.passes.length ≤ 12)

/-- V4 for one bay. -/
def RawBay.loadOk (b : RawBay) : Bool :=
  (if b.state = 0 then b.load == 0 && b.tag.isNone && b.opened == 0 else b.load != 0) && b.tag != some 0

/-- V5 for one pass at a place of the list, counted from 0. -/
def RawPass.ok (p : RawPass) (place : Nat) : Bool :=
  decide (p.net ≤ 30000) && p.index == place + 1 && (decide (p.fill ≤ 250) || p.fill == 255) &&
    decide (p.flags < 512) && p.flags.testBit 8 == p.residue.isSome && decide (p.residue.getD 0 ≤ 30000)

/-- A pass entry as the bay holds it. -/
def RawPass.toPass (p : RawPass) : Pass where
  index := p.index
  net := p.net
  fill := p.fill
  flags := Flags.ofNat p.flags
  cycleTime := p.cycleTime
  commitTime := BitVec.ofNat 32 p.commitTime
  residue := p.residue

/-- V5 for one bay: its passes, the total, and the state by R97. -/
def RawBay.passesOk (b : RawBay) : Bool :=
  (b.passes.zipIdx.all fun x => x.1.ok x.2) && b.total == (b.passes.map fun p => p.net).sum &&
    bayStateOf b.state == some (bayStateFor b.load (b.passes.map RawPass.toPass) b.total b.target b.max)

/-- V6 for one bay. -/
def RawBay.figuresOk (b : RawBay) : Bool :=
  decide (1000 ≤ b.target) && decide (b.target ≤ b.max) && decide (b.max ≤ 60000) && decide (b.material < 16)

/-- V7: load numbers and tags. -/
def RawSnapshot.numbersOk (r : RawSnapshot) : Bool :=
  r.nextLoad != 0 && (r.left.state == 0 || r.right.state == 0 || r.left.load != r.right.load) &&
    (r.left.load == 0 || decide (r.left.load < r.nextLoad)) &&
    (r.right.load == 0 || decide (r.right.load < r.nextLoad)) &&
    (r.left.tag.isNone || r.left.tag != r.right.tag)

/-- V8: the counters' relations. -/
def RawSnapshot.countersOk (r : RawSnapshot) : Bool :=
  r.counters.cycles == r.counters.truckPasses + r.counters.pileDumps &&
    decide (r.counters.unweighed ≤ r.counters.truckPasses)

/-- V9: zero trim, shift number, active bay, minimum VSYS. -/
def RawSnapshot.restOk (r : RawSnapshot) : Bool :=
  decide (-1500 ≤ r.trim) && decide (r.trim ≤ 1500) && r.number != 0 && (sideOf r.active).isSome &&
    decide (r.minVsys ≤ 400)

/-- The first of V3 to V9 that a record fails. -/
def RawSnapshot.failing (r : RawSnapshot) : Option Nat :=
  if !(r.left.shapeOk && r.right.shapeOk) then some 3
  else if !(r.left.loadOk && r.right.loadOk) then some 4
  else if !(r.left.passesOk && r.right.passesOk) then some 5
  else if !(r.left.figuresOk && r.right.figuresOk) then some 6
  else if !r.numbersOk then some 7
  else if !r.countersOk then some 8
  else if !r.restOk then some 9
  else none

/-- A record passes V1 to V9, or the number of the first check it fails (R188, R189). -/
def checkSnapshot (payload : List Byte) : Except Nat RawSnapshot :=
  if natAt payload 0 1 = 2 then
    match framed payload with
    | none => .error 2
    | some r =>
      match r.failing with
      | some n => .error n
      | none => .ok r
  else .error 1

/-! ### Accepting a record (R190, R191) -/

/-- A bay as an accepted record gives it, its truck reference resolved by a plain lookup (R190, R191). -/
def RawBay.toBay (b : RawBay) (lookup : Nat → Option TruckRef) : Bay where
  state := (bayStateOf b.state).getD .empty
  load := b.load
  tag := b.tag
  ref := if b.state = 0 then none else b.tag.bind lookup
  material := Fin.ofNat 16 b.material
  target := b.target
  max := b.max
  opened := BitVec.ofNat 32 b.opened
  passes := b.passes.map RawPass.toPass
  total := b.total

/-- The clock after a restore: the record's when it is the greater number (R190, step 3). -/
def restoredClock (now : Clock) (record : Nat) : Clock :=
  if now.toNat < record then BitVec.ofNat 32 record else now

/-- The state after an accepted record (R190). -/
def State.restore (s : State) (r : RawSnapshot) : State :=
  { s with
    bays := { s.bays with
      bay := ⟨r.left.toBay s.lookup, r.right.toBay s.lookup⟩
      active := (sideOf r.active).getD .left
      nextLoad := r.nextLoad }
    shift := ⟨r.number, BitVec.ofNat 32 r.start, r.minVsys, r.counters⟩
    weigh := { s.weigh with zeroTrim := r.trim }
    clock := restoredClock s.clock r.clock
    arb := { s.arb with fresh := false } }

/-- The work of RESTORE_SNAPSHOT (R188, R190). Of the figures that R190 gives 'for each bay', LEFT's stands first, which is
the model's order (notes/assumptions/17.md). -/
def restoreSnapshotWork (payload : List Byte) (s : State) : State × Reply :=
  if s.arb.fresh then
    match checkSnapshot payload with
    | .error n => (s, .refuse .invalid n [])
    | .ok r =>
      let after := s.restore r
      (after, .ok (be 4 after.clock.toNat ++ boolByte (after.bay .left).ref.isSome ++
        boolByte (after.bay .right).ref.isSome))
  else (s, .refuse .state 0x40 [])

/-- RESTORE_SNAPSHOT (R188). -/
def execRestoreSnapshot (p : Port) (s : State) : Result :=
  grantRequest .restoreSnapshot p none restoreSnapshotWork s

/-- TAKE_SNAPSHOT (R187). -/
def execTakeSnapshot (p : Port) (s : State) : Result :=
  grantRequest .takeSnapshot p none (viewWork State.snapshot) s

end Sys2Proof.Machine
end

