-- ==== Sys2Proof/Machine/Views.lean ====
section
/-! DEFINITION. The requests of the VIEW class that answer a picture: what each lists, in the order of its rule, in
the bytes of R195. A choice that the layouts do not number is numbered in the order its rule names it
(notes/assumptions/15.md to 17.md). -/

namespace Sys2Proof.Machine

/-! ### VIEW_LIVE (R47) -/

/-- A truck-dump reference: bay, load number, pass index (R35). -/
def DumpRef.bytes (r : DumpRef) : List Byte := be 1 r.side.code ++ be 4 r.load ++ be 1 r.index

/-- A window result: net, fill and flags (R47). No rule says how a window result's flags are coded: R197 codes those of
a pass, and R64 names UNCAL before REWEIGHED. The model's choice: the two bytes and the bits of the pass flags of R197,
so REWEIGHED is bit 5 and UNCAL bit 6 (notes/assumptions/16.md). -/
def WindowResult.bytes (w : WindowResult) : List Byte := be 2 w.net ++ be 1 w.fill ++ be 2 w.flags.toNat

/-- A zero result: mean, and the verdict accepted 0 or out of range 1 (R42). -/
def ZeroResult.bytes (z : ZeroResult) : List Byte := beInt 2 z.mean ++ [if z.accepted then 0 else 1]

/-- A capture kind, and the mass, absent but for LOAD (R80, R195). -/
def CaptureKind.bytes (k : CaptureKind) : List Byte :=
  be 1 k.code ++ match k with
    | .empty => optional none (be 2)
    | .load mass => optional (some mass) (be 2)

/-- The capture mode: disarmed 0, or armed 1 with its kind and mass (R47). -/
def captureModeBytes : Option CaptureKind → List Byte
  | none => [0]
  | some k => 1 :: k.bytes

/-- The flags gathered by the window accumulator, a set of SAT, NOPITCH and SLOW in the order of R52 (R67). -/
def Accumulator.flagCode (a : Accumulator) : Nat := flagBit a.sat 0 + flagBit a.nopitch 1 + flagBit a.slow 2

/-- What VIEW_LIVE answers (R47), and after it the accumulator's flags, which R67 says are visible there and R47 does
not list. Their place and their coding are the model's (notes/assumptions/36.md). -/
def State.liveFigures (s : State) : List Byte :=
  let t := s.tracker
  let a := s.weigh.acc
  be 1 t.cycle.code ++ be 2 t.timer ++ be 2 s.liveMass ++ be 1 a.count ++ be 1 a.skipped ++ boolByte a.abandoned ++
    optional t.held WindowResult.bytes ++ boolByte t.overload.left ++ boolByte t.overload.right ++
    boolByte t.residuePending ++ optional t.dumpRef DumpRef.bytes ++ boolByte t.zeroPending ++
    beInt 2 s.weigh.zeroTrim ++ optional t.lastZero ZeroResult.bytes ++ captureModeBytes t.capture ++
    be 1 s.supply.state.code ++ be 1 a.flagCode

/-- VIEW_LIVE (R47). -/
def execViewLive (p : Port) (s : State) : Result := grantRequest .viewLive p none (viewWork State.liveFigures) s

/-! ### VIEW_BAY (R118) -/

/-- A residue report: r, the reference, the amount, and the verdict applied 0 or declined 1 (R112, R113). -/
def ResidueReport.bytes (r : ResidueReport) : List Byte :=
  be 2 r.residue ++ r.ref.bytes ++ be 2 r.amount ++ [if r.applied then 0 else 1]

/-- What VIEW_BAY answers (R118). -/
def State.bayFigures (s : State) (d : Side) : List Byte :=
  let b := s.bay d
  b.bytes b.ref ++ optional (s.advisory b) (be 1) ++ boolByte (s.tracker.overload.get d) ++
    be 1 s.bays.active.code ++ be 4 s.bays.nextLoad ++ be 2 s.bays.crossReads ++
    optional s.bays.residueReport ResidueReport.bytes

/-- The work of VIEW_BAY (R118). -/
def viewBayWork (payload : List Byte) (s : State) : State × Reply :=
  match sideOf (natAt payload 0 1) with
  | none => (s, .range 1)
  | some d => (s, .ok (s.bayFigures d))

/-- VIEW_BAY (R118). -/
def execViewBay (p : Port) (s : State) : Result := grantRequest .viewBay p none viewBayWork s

/-! ### VIEW_TRUCK (R138) -/

/-- The fields of an entry after its valid flag, in the order of R125. -/
def TruckEntry.figures (e : TruckEntry) : List Byte :=
  boolByte e.pinned ++ be 3 e.tag ++ be 2 e.target ++ be 2 e.max ++ be 1 e.material.val ++ be 2 e.trips ++
    be 3 e.lastPayload ++ optional e.lastSeen (fun c => be 4 c.toNat)

/-- The replacement bits root, pair-A and pair-B (R127). -/
def TruckSet.bits (t : TruckSet) : List Byte := boolByte t.root ++ boolByte t.pairA ++ boolByte t.pairB

/-- The bays whose truck reference names an entry (R138). -/
def State.referencing (s : State) (ref : TruckRef) : Sides Bool :=
  ⟨(s.bay .left).ref == some ref, (s.bay .right).ref == some ref⟩

/-- What VIEW_TRUCK answers by tag (R138). 'Every field of the entry' takes in the valid flag, the first field of R125,
which is sent there though a found entry is always valid: the model's choice (notes/assumptions/17.md). -/
def State.truckByTag (s : State) (tag : Nat) : List Byte :=
  match s.lookup tag with
  | some ref =>
    1 :: ref.bytes ++ boolByte (s.entry ref).valid ++ (s.entry ref).figures ++ s.trucks[ref.set].bits ++
      be 1 (s.referencing ref).setCode
  | none => 0 :: be 1 (setOf tag).val ++ s.trucks[setOf tag].bits

/-- What VIEW_TRUCK answers by set and way (R138). R138 lists the valid flag and then, for a valid entry, every field, of
which R125 names valid first; it does not say whether the flag is sent again. The model's choice: it is sent once, in
front, and the fields from pinned on follow (notes/assumptions/17.md). -/
def State.truckByWay (s : State) (ref : TruckRef) : List Byte :=
  (if (s.entry ref).valid then 1 :: (s.entry ref).figures ++ be 1 (s.referencing ref).setCode else [0]) ++
    s.trucks[ref.set].bits

/-- The work of VIEW_TRUCK (R138, R194). -/
def viewTruckWork (payload : List Byte) (s : State) : State × Reply :=
  match natAt payload 0 1 with
  | 0 => if natAt payload 1 3 = 0 then (s, .range 2) else (s, .ok (s.truckByTag (natAt payload 1 3)))
  | 1 =>
    if hs : natAt payload 1 1 < 8 then
      if hw : natAt payload 2 1 < 4 then
        if natAt payload 3 1 = 0 then (s, .ok (s.truckByWay ⟨⟨natAt payload 1 1, hs⟩, ⟨natAt payload 2 1, hw⟩⟩))
        else (s, .range 4)
      else (s, .range 3)
    else (s, .range 2)
  | _ => (s, .range 1)

/-- VIEW_TRUCK (R138). -/
def execViewTruck (p : Port) (s : State) : Result := grantRequest .viewTruck p none viewTruckWork s

/-! ### VIEW_MATERIAL (R143), VIEW_COUNTERS (R158), VIEW_PROFILE (R94) -/

/-- What VIEW_MATERIAL answers (R143). -/
def State.materialFigures (s : State) : List Byte :=
  (s.materials.toList.flatMap fun m => be 2 m.density ++ m.label) ++ be 1 s.cal.profile.defMaterial.val

/-- VIEW_MATERIAL (R143). -/
def execViewMaterial (p : Port) (s : State) : Result :=
  grantRequest .viewMaterial p none (viewWork State.materialFigures) s

/-- What VIEW_COUNTERS answers (R158). -/
def State.counterFigures (s : State) : List Byte :=
  be 2 s.shift.number ++ be 4 s.shift.start.toNat ++ be 2 s.shift.minVsys ++ s.shift.counters.bytes ++
    be 4 s.clock.toNat ++ be 1 s.log.records.length ++ be 1 s.log.unread.cab ++ be 2 s.log.missed.cab ++
    be 1 s.log.unread.fleet ++ be 2 s.log.missed.fleet

/-- VIEW_COUNTERS (R158). -/
def execViewCounters (p : Port) (s : State) : Result :=
  grantRequest .viewCounters p none (viewWork State.counterFigures) s

/-- VIEW_PROFILE (R94). -/
def execViewProfile (p : Port) (s : State) : Result :=
  grantRequest .viewProfile p none (viewWork fun s => s.cal.profile.bytes) s

/-! ### VIEW_NODES (R17) -/

/-- A presence entry (R3, R17). -/
def Presence.bytes (e : Presence) : List Byte := boolByte e.present ++ be 1 (nodeTypeCode e.type) ++ be 1 e.missed

/-- A role (R5, R17). -/
def RoleRec.bytes (r : RoleRec) : List Byte :=
  be 1 (bindingCode r.bound) ++ be 1 r.state.code ++ be 1 r.misses ++ be 1 r.recoveries ++
    optional r.lastGood (beInt 2)

/-- A slot: its state, and the transaction of one that is ARMED or DONE (R17). -/
def Slot.bytes (x : Slot) : List Byte :=
  be 1 x.code ++ match x with
    | .free => []
    | .armed a | .done a _ => a.bytes

/-- What VIEW_NODES answers (R17). -/
def State.nodeFigures (s : State) : List Byte :=
  let l := s.link
  l.presence.toList.flatMap Presence.bytes ++ (Role.all.flatMap fun r => (l.roles.get r).bytes) ++
    l.slots.toList.flatMap Slot.bytes ++ be 1 l.probePtr.val ++ be 1 l.period ++ be 2 l.zeroTags

/-- The work of VIEW_NODES: the zero-tag counter returns to 0 (R17). -/
def viewNodesWork (_ : List Byte) (s : State) : State × Reply :=
  (s.modifyLink fun l => { l with zeroTags := 0 }, .ok s.nodeFigures)

/-- VIEW_NODES (R17). -/
def execViewNodes (p : Port) (s : State) : Result := grantRequest .viewNodes p none viewNodesWork s

/-! ### VIEW_CURVE (R93) -/

/-- Four entries of a list, from a piece (R93). -/
def pieceOf {α : Type} (xs : List α) (piece : Nat) : List α := (xs.drop (4 * piece)).take 4

/-- One bin of the active curve with its angle (R74, R93). -/
def curveBinBytes (f : Profile) (b : CurveBin × Nat) : List Byte :=
  beInt 2 (f.origin + b.2 * f.step) ++ beInt 3 b.1.empty ++ be 2 b.1.span

/-- What VIEW_CURVE answers for a piece of the active curve (R93). -/
def Cal.activeFigures (c : Cal) (piece : Nat) : List Byte :=
  be 2 c.generation ++ beInt 2 c.profile.origin ++ be 2 c.profile.step ++
    (pieceOf c.active.toList.zipIdx piece).flatMap (curveBinBytes c.profile)

/-- One bin of the staging curve (R93). -/
def StagingBin.bytes (b : StagingBin) : List Byte :=
  beInt 3 b.empty ++ be 2 b.span ++ boolByte b.eValid ++ boolByte b.sValid

/-- One bin of the capture report: its count, its mean when one was formed, and for LOAD its rise (R84, R195). -/
def BinReport.bytes (b : BinReport) : List Byte :=
  be 1 b.count ++ optional b.mean (beInt 3) ++ optional b.rise (beInt 3)

/-- A set of bins, one bit for each (R195). -/
def binSet (xs : List BinReport) (captured : Bool) : Nat :=
  (xs.zipIdx.map fun x => if x.1.captured = captured then 2 ^ x.2 else 0).sum

/-- The last capture report for a piece: kind, mass, the result completed 0 or aborted 1, and for a completed one
the sets captured and failed and the four bins (R84, R93). -/
def CaptureReport.bytes (r : CaptureReport) (piece : Nat) : List Byte :=
  r.kind.bytes ++ match r.bins with
    | none => [1]
    | some bins =>
      0 :: be 2 (binSet bins.toList true) ++ be 2 (binSet bins.toList false) ++
        (pieceOf bins.toList piece).flatMap BinReport.bytes

/-- What VIEW_CURVE answers for a piece of the staging curve (R93). -/
def Cal.stagingFigures (c : Cal) (piece : Nat) : List Byte :=
  (pieceOf c.staging.toList piece).flatMap StagingBin.bytes ++ optional c.report fun r => r.bytes piece

/-- The work of VIEW_CURVE: the piece is field 1 and the choice field 2 (R93, R194). Their bytes in the payload, the
piece's first, are the model's (notes/assumptions/39.md). -/
def viewCurveWork (payload : List Byte) (s : State) : State × Reply :=
  let piece := natAt payload 0 1
  if piece < 4 then
    match natAt payload 1 1 with
    | 0 => (s, .ok (s.cal.activeFigures piece))
    | 1 => (s, .ok (s.cal.stagingFigures piece))
    | _ => (s, .range 2)
  else (s, .range 1)

/-- VIEW_CURVE (R93). -/
def execViewCurve (p : Port) (s : State) : Result := grantRequest .viewCurve p none viewCurveWork s

/-! ### VIEW_PORT (R180) and VIEW_PART (R181) -/

/-- What VIEW_PORT answers (R180): the queue without this request, the answers before this one, the port just granted
as last served (notes/assumptions/31.md). -/
def State.portFigures (s : State) (p : Port) : List Byte :=
  let b := s.port p
  be 2 b.discarded ++ be 1 b.queue.length ++ be 1 b.answers.length ++ be 2 b.pacer.enables.toNat ++
    be 1 b.pacer.interval ++ boolByte b.pacer.timer.isSome ++ boolByte b.pacer.line ++ be 1 s.arb.lastServed.code

/-- The work of VIEW_PORT: the issuing port's discarded-frame counter returns to 0 (R180). -/
def viewPortWork (p : Port) (_ : List Byte) (s : State) : State × Reply :=
  (s.modifyPort p fun b => { b with discarded := 0 }, .ok (s.portFigures p))

/-- VIEW_PORT (R180). -/
def execViewPort (p : Port) (s : State) : Result := grantRequest .viewPort p none (viewPortWork p) s

/-- What VIEW_PART answers (R181): revision 3, snapshot format 2. The level of CALEN is sent as a yes-or-no byte, 1
for high (notes/assumptions/16.md). -/
def State.partFigures (s : State) : List Byte :=
  be 1 3 ++ be 1 2 ++ be 2 s.cal.generation ++ boolByte s.pins.calen ++ boolByte s.arb.fresh ++
    be 1 s.supply.state.code ++ be 2 s.supply.lastVsys ++ be 2 s.supply.minSince ++
    be 1 s.resetRecord.cause.code ++ be 4 s.resetRecord.clock.toNat

/-- VIEW_PART (R181), which reads the level of CALEN. -/
def execViewPart (p : Port) (calen : Bool) (s : State) : Result :=
  grantRequest .viewPart p (some calen) (viewWork State.partFigures) s

/-! ### COLLECT_NOTICES (R183) and SET_NOTICES (R184) -/

/-- The set that a kind's notices named: bays for PASS, BAY and OVERLOAD, roles for SENSOR (R182, R183). -/
def Pacer.setBytes (pc : Pacer) : NoticeKind → List Byte
  | .pass => be 1 pc.passBays.setCode
  | .bay => be 1 pc.bayBays.setCode
  | .overload => be 1 pc.overloadBays.setCode
  | .sensor => be 1 pc.sensorRoles.setCode
  | .pile | .residue | .logged | .shift | .supply | .zero | .capture | .node => []

/-- The kinds with a count above 0, enabled or not (R183). No rule orders them; they stand in the order of their
numbers (R196; notes/assumptions/17.md). -/
def Pacer.pendingKinds (pc : Pacer) : List NoticeKind := NoticeKind.all.filter fun k => decide (0 < pc.count k)

/-- What COLLECT_NOTICES answers (R183): a list of kinds, each with its count and, where its kind has one, its set
right behind the count (notes/assumptions/17.md). -/
def Pacer.figures (pc : Pacer) : List Byte :=
  counted pc.pendingKinds fun k => be 1 k.num.val ++ be 1 (pc.count k) ++ pc.setBytes k

/-- The work of COLLECT_NOTICES (R183). -/
def collectNoticesWork (p : Port) (_ : List Byte) (s : State) : State × Reply :=
  (s.modifyPort p fun b => b.modifyPacer Pacer.collect, .ok (s.port p).pacer.figures)

/-- COLLECT_NOTICES (R183). -/
def execCollectNotices (p : Port) (s : State) : Result :=
  grantRequest .collectNotices p none (collectNoticesWork p) s

/-- The work of SET_NOTICES: a set with any of bits 12 to 15 answers RANGE (R184, R194). That the set's two bytes stand
before the interval's is the model's (notes/assumptions/39.md). -/
def setNoticesWork (p : Port) (payload : List Byte) (s : State) : State × Reply :=
  let enables := natAt payload 0 2
  let interval := natAt payload 2 1
  if enables < 4096 then
    (s.modifyPort p fun b => b.modifyPacer fun pc => pc.configure (BitVec.ofNat 12 enables) interval,
      .ok (be 2 enables ++ be 1 (min interval 200)))
  else (s, .range 1)

/-- SET_NOTICES (R184). -/
def execSetNotices (p : Port) (s : State) : Result := grantRequest .setNotices p none (setNoticesWork p) s

end Sys2Proof.Machine
end

