-- ==== Sys2Proof/Machine/Dispatch.lean ====
section
/-! DEFINITION. Each command runs its meaning. -/

namespace Sys2Proof.Machine

/-- The effect of a command on everything but the queue. -/
def exec (i : Instr) (s : State) : Host.Outcome State Fault Refusal :=
  match i with
  | .powerOnReset => Sys2Proof.Machine.execPowerOnReset s
  | .powerCollapse => Sys2Proof.Machine.execPowerCollapse s
  | .pinReset => Sys2Proof.Machine.execPinReset s
  | .pinResetRelease => Sys2Proof.Machine.execPinResetRelease s
  | .sweepStart => Sys2Proof.Machine.execSweepStart s
  | .readValue role reply => Sys2Proof.Machine.execReadValue role reply s
  | .probe reply => Sys2Proof.Machine.execProbe reply s
  | .nodeRead reply => Sys2Proof.Machine.execNodeRead reply s
  | .nodeWrite reply => Sys2Proof.Machine.execNodeWrite reply s
  | .tagEvent => Sys2Proof.Machine.execTagEvent s
  | .truckDump => Sys2Proof.Machine.execTruckDump s
  | .pileDump => Sys2Proof.Machine.execPileDump s
  | .reweigh => Sys2Proof.Machine.execReweigh s
  | .lostCycle => Sys2Proof.Machine.execLostCycle s
  | .residue => Sys2Proof.Machine.execResidue s
  | .zero => Sys2Proof.Machine.execZero s
  | .capture => Sys2Proof.Machine.execCapture s
  | .frameArrival p frame => Sys2Proof.Machine.execFrameArrival p frame s
  | .frameDiscard p cause => Sys2Proof.Machine.execFrameDiscard p cause s
  | .cabCsNRise => Sys2Proof.Machine.execCabCsNRise s
  | .frameGapTimeout => Sys2Proof.Machine.execFrameGapTimeout s
  | .answerSent sending => Sys2Proof.Machine.execAnswerSent sending s
  | .viewLive p => Sys2Proof.Machine.execViewLive p s
  | .viewBay p => Sys2Proof.Machine.execViewBay p s
  | .viewTruck p => Sys2Proof.Machine.execViewTruck p s
  | .viewMaterial p => Sys2Proof.Machine.execViewMaterial p s
  | .viewCounters p => Sys2Proof.Machine.execViewCounters p s
  | .nextRecord p => Sys2Proof.Machine.execNextRecord p s
  | .viewNodes p => Sys2Proof.Machine.execViewNodes p s
  | .viewCurve p => Sys2Proof.Machine.execViewCurve p s
  | .viewProfile p => Sys2Proof.Machine.execViewProfile p s
  | .viewPort p => Sys2Proof.Machine.execViewPort p s
  | .viewPart p calen => Sys2Proof.Machine.execViewPart p calen s
  | .collectNotices p => Sys2Proof.Machine.execCollectNotices p s
  | .setNotices p => Sys2Proof.Machine.execSetNotices p s
  | .takeSnapshot p => Sys2Proof.Machine.execTakeSnapshot p s
  | .selectBay p => Sys2Proof.Machine.execSelectBay p s
  | .assignTruck p => Sys2Proof.Machine.execAssignTruck p s
  | .closeLoad p => Sys2Proof.Machine.execCloseLoad p s
  | .setLoadTarget p => Sys2Proof.Machine.execSetLoadTarget p s
  | .zeroBucket p => Sys2Proof.Machine.execZeroBucket p s
  | .cancelZero p => Sys2Proof.Machine.execCancelZero p s
  | .endShift p => Sys2Proof.Machine.execEndShift p s
  | .restoreSnapshot p => Sys2Proof.Machine.execRestoreSnapshot p s
  | .writeTruck p => Sys2Proof.Machine.execWriteTruck p s
  | .dropTruck p => Sys2Proof.Machine.execDropTruck p s
  | .writeMaterial p => Sys2Proof.Machine.execWriteMaterial p s
  | .setTime p => Sys2Proof.Machine.execSetTime p s
  | .nodeAccess p => Sys2Proof.Machine.execNodeAccess p s
  | .nodeResult p => Sys2Proof.Machine.execNodeResult p s
  | .stagePiece p calen => Sys2Proof.Machine.execStagePiece p calen s
  | .stageFill p calen => Sys2Proof.Machine.execStageFill p calen s
  | .startCapture p calen => Sys2Proof.Machine.execStartCapture p calen s
  | .abortCapture p calen => Sys2Proof.Machine.execAbortCapture p calen s
  | .installCurve p calen => Sys2Proof.Machine.execInstallCurve p calen s
  | .setProfile p calen => Sys2Proof.Machine.execSetProfile p calen s
  | .supplyMeasurement vsys => Sys2Proof.Machine.execSupplyMeasurement vsys s
  | .clockTick => Sys2Proof.Machine.execClockTick s
  | .paceTimerExpiry p => Sys2Proof.Machine.execPaceTimerExpiry p s
  | .syncByteReceived p => Sys2Proof.Machine.execSyncByteReceived p s
  | .cabCsNFall => Sys2Proof.Machine.execCabCsNFall s

end Sys2Proof.Machine
end

