-- ==== Sys2Proof/Safety.lean ====
section
/-! DEFINITION. The laws that the manual says the blocks keep, as properties of a state. Each is meant to be kept by
every step; the statements that say so are in Certificates/Slice0/Obligations.lean. -/

namespace Sys2Proof.Machine

/-! ### Ports and pacers (R173, R174, R182, R185) -/

/-- A pacer holds figures in their ranges, and its line is asserted only while an enabled kind is pending (R182,
R185). -/
abbrev Pacer.lawful (pc : Pacer) : Prop :=
  (pc.line = true → pc.due = true) ∧ (∀ i : Fin 12, pc.pending[i] ≤ 255) ∧ pc.interval ≤ 200 ∧
    (∀ t ∈ pc.timer, 1 ≤ t ∧ t ≤ 200)

/-- A pacer with its line deasserted and its timer stopped has no enabled kind pending (R185). -/
abbrev Pacer.settled (pc : Pacer) : Prop := pc.line = false → pc.timer = none → pc.due = false

/-- The attention lines keep R185; while the part runs no enabled notice waits behind a deasserted line whose timer
is stopped; and NODE is never counted in the Cab port's pacer (R15, R184). -/
abbrev AttentionLaw (s : State) : Prop :=
  s.ports.cab.pacer.lawful ∧ s.ports.fleet.pacer.lawful ∧
    (s.power = .running → s.ports.cab.pacer.settled ∧ s.ports.fleet.pacer.settled) ∧
    s.ports.cab.pacer.count .node = 0

/-- A port holds at most four requests and four answers, payloads of at most 480 bytes, and a discarded-frame count
in its range; the oldest answer has not gone out in full, and nothing is part-way out of an empty buffer; an assembler
has gathered no more than the longest frame (R169, R171, R173, R174). -/
abbrev PortBlock.bounded (b : PortBlock) : Prop :=
  b.queue.length ≤ 4 ∧ b.answers.length ≤ 4 ∧ (∀ r ∈ b.queue, r.payload.length ≤ 480) ∧ b.discarded ≤ max16 ∧
    (∀ a ∈ b.answers.head?, b.sent < a.size) ∧ (b.answers = [] → b.sent = 0) ∧
    b.assembler.gathered ≤ longestFrame

/-- Both ports keep their bounds. -/
abbrev PortLaw (s : State) : Prop := s.ports.cab.bounded ∧ s.ports.fleet.bounded

/-! ### Bays and loads (R96 to R104) -/

/-- The range of a tag (R96). -/
abbrev tagInRange (t : Nat) : Prop := 1 ≤ t ∧ t ≤ 16777215

/-- A pass keeps the ranges of R98, and carries a residue exactly when RESIDUE is set. -/
abbrev Pass.lawful (p : Pass) : Prop :=
  p.net ≤ 30000 ∧ (p.fill ≤ 250 ∨ p.fill = 255) ∧ p.cycleTime ≤ max16 ∧
    p.flags.residue = p.residue.isSome ∧ p.residue.getD 0 ≤ 30000

/-- A bay's state agrees with its contents, its total is the sum of its nets, its passes are at most twelve and
numbered from 1, and an EMPTY bay holds no tag, no reference and opened time 0 (R96 to R99). -/
abbrev Bay.consistent (b : Bay) : Prop :=
  b.state = bayStateFor b.load b.passes b.total b.target b.max ∧ b.total = sumNets b.passes ∧
    b.passes.length ≤ 12 ∧ (∀ p ∈ b.passes, p.lawful) ∧
    b.passes.map (fun p => p.index) = List.range' 1 b.passes.length ∧ (∀ t ∈ b.tag, tagInRange t) ∧
    (b.state = .empty → b.tag = none ∧ b.ref = none ∧ b.passes = [] ∧ b.opened = 0)

/-- A window result before it becomes a pass: its net and fill in range, and neither of the bay manager's flags
(R62, R64, R68). -/
abbrev WindowResult.lawful (w : WindowResult) : Prop :=
  w.net ≤ 30000 ∧ (w.fill ≤ 250 ∨ w.fill = 255) ∧ w.flags.residue = false ∧ w.flags.merged = false

/-- A truck dump or tag event that waits carries figures in their ranges (R13, R26, R62). -/
def Item.lawful : Item → Bool
  | .truckDump w cycleTime _ _ => decide (w.lawful ∧ cycleTime ≤ max16)
  | .tag e => decide (tagInRange e.tag)
  | .pileDump _ | .reweigh | .residue _ _ | .lostCycle | .zero _ | .capture _ _ => true

/-- The two non-EMPTY bays never hold the same tag (R104). -/
abbrev tagsDiffer (l r : Bay) : Prop := l.state ≠ .empty → r.state ≠ .empty → l.tag.isSome → l.tag ≠ r.tag

/-- The bays keep R97, R99 and R104, and what is on its way to them is in range. -/
abbrev BayLaw (s : State) : Prop :=
  s.bays.bay.left.consistent ∧ s.bays.bay.right.consistent ∧ tagsDiffer s.bays.bay.left s.bays.bay.right ∧
    1 ≤ s.bays.nextLoad ∧ s.bays.nextLoad ≤ max32 ∧ s.tracker.timer ≤ max16 ∧
    (∀ w ∈ s.tracker.held, w.lawful) ∧ (∀ i ∈ s.arb.items, i.lawful = true) ∧
    (∀ sw ∈ s.link.sweep, ∀ e ∈ sw.tags, tagInRange e.tag)

/-- A target and max in the range of R96 and R125. -/
abbrev figuresInRange (target max : Nat) : Prop := 1000 ≤ target ∧ target ≤ max ∧ max ≤ 60000

/-- The target and max of each bay, each valid truck entry and the profile's defaults are in range (R89, R96,
R126). -/
abbrev FiguresLaw (s : State) : Prop :=
  figuresInRange s.bays.bay.left.target s.bays.bay.left.max ∧
    figuresInRange s.bays.bay.right.target s.bays.bay.right.max ∧
    figuresInRange s.cal.profile.defTarget s.cal.profile.defMax ∧
    ∀ (i : Fin 8) (w : Fin 4), s.trucks[i].ways[w].valid = true →
      figuresInRange s.trucks[i].ways[w].target s.trucks[i].ways[w].max

/-- The load number of a LOAD record. -/
def LogRecord.loadNumber : LogRecord → Option Nat
  | .load r => some r.load
  | .shift _ => none

/-- The load numbers of the log, oldest first. -/
def Log.loadNumbers (l : Log) : List Nat := l.records.filterMap LogRecord.loadNumber

/-- The load of a bay lies below the next load number and above every logged one (R100, R101). -/
abbrev loadInOrder (load nextLoad : Nat) (logged : List Nat) : Prop :=
  load < nextLoad ∧ (load ≠ 0 → ∀ n ∈ logged, n < load)

/-- Load numbers are distinct and in order (R100, R150), and a fresh part's log is empty (R150, R177). -/
abbrev NumberLaw (s : State) : Prop :=
  (s.bays.bay.left.load ≠ 0 → s.bays.bay.left.load ≠ s.bays.bay.right.load) ∧
    loadInOrder s.bays.bay.left.load s.bays.nextLoad s.log.loadNumbers ∧
    loadInOrder s.bays.bay.right.load s.bays.nextLoad s.log.loadNumbers ∧
    s.log.loadNumbers.Pairwise (fun a b => a < b) ∧ (∀ n ∈ s.log.loadNumbers, n < s.bays.nextLoad) ∧
    (s.arb.fresh = true → s.log.records = [])

/-! ### The truck table (R117, R126) -/

/-- Each valid entry stands in the set of its tag, and no tag stands in two valid entries (R126). -/
abbrev tableInOrder (trucks : Vector TruckSet 8) : Prop :=
  ∀ (i : Fin 8) (w : Fin 4), trucks[i].ways[w].valid = true →
    trucks[i].ways[w].tag % 8 = i.val ∧
      ∀ v : Fin 4, trucks[i].ways[v].valid = true → trucks[i].ways[v].tag = trucks[i].ways[w].tag → v = w

/-- A bay's truck reference names a valid entry holding the bay's tag (R117). -/
abbrev refHolds (b : Bay) (trucks : Vector TruckSet 8) : Prop :=
  ∀ ref ∈ b.ref, trucks[ref.set].ways[ref.way].valid = true ∧
    b.tag = some trucks[ref.set].ways[ref.way].tag

/-- The truck table and the references into it keep R117 and R126. -/
abbrev TruckLaw (s : State) : Prop :=
  tableInOrder s.trucks ∧ refHolds s.bays.bay.left s.trucks ∧ refHolds s.bays.bay.right s.trucks

/-! ### Log, counters, fresh flag (R145, R149, R154, R177) -/

/-- The log holds at most 64 records and no unread count exceeds them (R145, R149). -/
abbrev LogLaw (s : State) : Prop :=
  s.log.records.length ≤ 64 ∧ s.log.unread.cab ≤ s.log.records.length ∧
    s.log.unread.fleet ≤ s.log.records.length ∧ s.log.missed.cab ≤ max16 ∧ s.log.missed.fleet ≤ max16

/-- The ten counters stay within their widths (R153, R154). -/
abbrev Counters.bounded (c : Counters) : Prop :=
  c.cycles ≤ max32 ∧ c.truckPasses ≤ max32 ∧ c.pileDumps ≤ max32 ∧ c.payloadKg ≤ max32 ∧ c.cycleTimeSum ≤ max32 ∧
    c.reweighs ≤ max16 ∧ c.residues ≤ max16 ∧ c.unweighed ≤ max16 ∧ c.lostCycles ≤ max16 ∧ c.loadsClosed ≤ max16

/-- Cycles equals truck_passes plus pile_dumps, saturating; unweighed is at most truck_passes; the shift number is
never 0 (R153, R154, R156). -/
abbrev CounterLaw (s : State) : Prop :=
  s.shift.counters.cycles = min (s.shift.counters.truckPasses + s.shift.counters.pileDumps) max32 ∧
    s.shift.counters.unweighed ≤ s.shift.counters.truckPasses ∧ s.shift.counters.bounded ∧
    1 ≤ s.shift.number ∧ s.shift.number ≤ max16

/-- A fresh part has recorded no work: both bays EMPTY and without passes, the log empty, the counters 0, and no
truck-dump reference (R177, R190). -/
abbrev FreshLaw (s : State) : Prop :=
  s.arb.fresh = true →
    s.bays.bay.left.state = .empty ∧ s.bays.bay.left.passes = [] ∧ s.bays.bay.right.state = .empty ∧
      s.bays.bay.right.passes = [] ∧ s.log.records = [] ∧ s.shift.counters = Counters.zero ∧
      s.tracker.dumpRef = none

/-! ### Calibration store and material table (R66, R75, R89, R141) -/

/-- Spans of both curves lie in 1 to 65,535, and generation 0 names the default curve alone (R74, R75). -/
abbrev CurveLaw (s : State) : Prop :=
  (∀ i : Fin 16, 1 ≤ s.cal.active[i].span ∧ s.cal.active[i].span ≤ 65535) ∧
    (∀ i : Fin 16, 1 ≤ s.cal.staging[i].span ∧ s.cal.staging[i].span ≤ 65535) ∧ s.cal.generation ≤ 65535 ∧
    (s.cal.generation = 0 → s.cal.active = Vector.replicate 16 ⟨0, 1336⟩)

/-- A zero outcome marked accepted is within 1,500 kg either way (R42). -/
def Item.zeroInRange : Item → Bool
  | .zero z => !z.accepted || (decide (-1500 ≤ z.mean) && decide (z.mean ≤ 1500))
  | .truckDump .. | .pileDump _ | .reweigh | .residue _ _ | .lostCycle | .capture _ _ | .tag _ => true

/-- The zero trim stays within 1,500 kg either way (R66). -/
abbrev ZeroTrimLaw (s : State) : Prop :=
  -1500 ≤ s.weigh.zeroTrim ∧ s.weigh.zeroTrim ≤ 1500 ∧ ∀ i ∈ s.arb.items, i.zeroInRange = true

/-- A figure lies in a range. -/
abbrev within (lo hi v : Int) : Prop := lo ≤ v ∧ v ≤ hi

/-- The ranges and cross-checks of R89, but for the default material's density. -/
abbrev Profile.lawful (f : Profile) : Prop :=
  (f.sweepPeriod = 10 ∨ f.sweepPeriod = 20 ∨ f.sweepPeriod = 40) ∧
  within 1 65535 f.headArea ∧ within 0 65535 f.rodArea ∧
  within (-4500) 6000 f.digAngle ∧ within (-4500) 6000 f.loAngle ∧ f.digAngle < f.loAngle ∧
  within (-4500) 6000 f.hiAngle ∧ f.loAngle + 500 ≤ f.hiAngle ∧
  within (-4500) 6000 f.truckAngle ∧ f.hiAngle < f.truckAngle ∧
  within (-9000) 0 f.dumpAngle ∧ within 1 200 f.rateMin ∧ within 1 200 f.rateMax ∧ f.rateMin < f.rateMax ∧
  within 2 64 f.minSamples ∧ within 50 5000 f.spreadLimit ∧ within 50 2000 f.residueThreshold ∧
  within 0 2000 f.deadband ∧ within 500 30000 f.volume ∧ figuresInRange f.defTarget f.defMax ∧
  within (-4500) 0 f.origin ∧ within 100 800 f.step ∧ f.origin + 15 * f.step ≤ 9000 ∧
  (Role.all.filterMap f.binding.get).Nodup

/-- A material entry in the ranges of R141. -/
abbrev Material.lawful (m : Material) : Prop :=
  (m.density = 0 ∨ 500 ≤ m.density ∧ m.density ≤ 3500) ∧ m.label.length = 8 ∧ m.label.all labelChar = true

/-- The profile keeps R89, the material table R141, and the profile's default material has a density (R141). -/
abbrev ProfileLaw (s : State) : Prop :=
  s.cal.profile.lawful ∧ (∀ i : Fin 16, s.materials[i].lawful) ∧
    s.materials[s.cal.profile.defMaterial].density ≠ 0

/-! ### Link, weighing unit, tracker, supply (R3, R5, R21, R52, R162) -/

/-- A role's counts stay in their ranges, and its state says whether it is bound and whether it has a value (R5, R7,
R8). -/
abbrev roleInOrder (role : Role) (r : RoleRec) : Prop :=
  r.misses ≤ 2 ∧ r.recoveries ≤ 4 ∧ (r.state = .unbound ↔ r.bound = none) ∧ (r.misses ≠ 0 ↔ r.state = .hold) ∧
    (r.recoveries ≠ 0 → r.state = .fault) ∧
    (r.lastGood.isSome ↔ (r.state = .ok ∨ r.state = .hold) ∧ role.range.isSome) ∧
    (∀ v ∈ r.lastGood, ∀ x ∈ role.range, x.1 ≤ v ∧ v ≤ x.2)

/-- A sweep in progress keeps its order: the roles still to read stand in the order of R11, the node access comes after
the reads, and at most one tag of each reader waits, left before right (R11, R13). -/
abbrev sweepInOrder (sw : Sweep) : Prop :=
  sw.toRead.Sublist Role.all ∧ (sw.slot.isSome = true → sw.toRead = []) ∧
    sw.tags.Pairwise (fun a b => a.side = .left ∧ b.side = .right) ∧
    (∀ e ∈ sw.tags, Role.tagL ∉ sw.toRead ∧ (e.side = .right → Role.tagR ∉ sw.toRead))

/-- The link controller keeps R3, R5, R11 and R13: counts in range, no type for an address not present, a sweep in
order, and only bound roles still to read. -/
abbrev LinkLaw (s : State) : Prop :=
  (∀ role ∈ Role.all, roleInOrder role (s.link.roles.get role)) ∧
    (∀ i : Fin 16, s.link.presence[i].missed ≤ 2 ∧
      (s.link.presence[i].present = true ↔ s.link.presence[i].type.isSome = true)) ∧
    s.link.zeroTags ≤ max16 ∧
    (∀ sw ∈ s.link.sweep, sweepInOrder sw ∧ ∀ role ∈ sw.toRead, (s.link.roles.get role).bound.isSome = true)

/-- The window accumulator keeps the ranges of R52 and R61. -/
abbrev AccumulatorLaw (s : State) : Prop :=
  s.weigh.acc.count ≤ 255 ∧ s.weigh.acc.skipped ≤ 255 ∧ -2000 * (s.weigh.acc.count : Int) ≤ s.weigh.acc.sum ∧
    s.weigh.acc.sum ≤ 30000 * (s.weigh.acc.count : Int) ∧ (s.weigh.acc.count = 0 ↔ s.weigh.acc.min = none) ∧
    (s.weigh.acc.count = 0 ↔ s.weigh.acc.max = none) ∧ (∀ m ∈ s.weigh.acc.min, -2000 ≤ m) ∧
    (∀ m ∈ s.weigh.acc.max, m ≤ 30000) ∧ (∀ a ∈ s.weigh.acc.min, ∀ b ∈ s.weigh.acc.max, a ≤ b)

/-- Residue check pending stands only in RETURN or CHECK with a reference, CHECK only with it pending; IDLE holds no
result and no overload-risk flag; zero pending and an armed capture exclude each other; the timer and the reference's
index keep their ranges (R21, R23, R26, R35, R38, R40, R80). -/
abbrev TrackerLaw (s : State) : Prop :=
  (s.tracker.residuePending = true →
      (s.tracker.cycle = .ret ∨ s.tracker.cycle = .check) ∧ s.tracker.dumpRef.isSome = true) ∧
    (s.tracker.cycle = .check → s.tracker.residuePending = true) ∧
    (s.tracker.cycle = .idle →
      s.tracker.held = none ∧ s.tracker.overload = ⟨false, false⟩) ∧
    ¬(s.tracker.zeroPending = true ∧ s.tracker.capture.isSome = true) ∧ s.tracker.timer ≤ max16 ∧
    (∀ r ∈ s.tracker.dumpRef, 1 ≤ r.index ∧ r.index ≤ 12)

/-- The supply monitor keeps R162, and its figures their ranges (R155, R161, R164). -/
abbrev SupplyLaw (s : State) : Prop :=
  s.supply.lowCount ≤ 2 ∧ s.supply.highCount ≤ 2 ∧ (s.supply.state = .low → s.supply.lowCount = 0) ∧
    (s.supply.state = .normal → s.supply.highCount = 0) ∧ s.supply.minSince ≤ s.supply.lastVsys ∧
    s.supply.lastVsys ≤ 400 ∧ s.shift.minVsys ≤ 400

end Sys2Proof.Machine
end

