-- ==== Sys2Proof/Certificates/Slice0/Obligations.lean ====
section
/-! DEFINITION. What is claimed of the model. First the words the statements share, then one definition for each
statement. -/

namespace Sys2Proof.Machine

/-! ### Words about commands -/

/-- The request at the head of a port's queue has its turn (R175): the part runs, no outcome or tag event waits, the
answer buffer has a free place, and the other port has nothing that qualifies or was served last. -/
abbrev OffersRequest (s : State) (p : Port) (r : Request) (rest : List Request) : Prop :=
  s.power = .running ∧ s.arb.items = [] ∧ (s.port p).queue = r :: rest ∧ (s.port p).answers.length < 4 ∧
    ((s.port p.other).queue = [] ∨ 4 ≤ (s.port p.other).answers.length ∨ s.arb.lastServed = p.other)

/-- A request of this kind has its turn, with a payload of the length its kind requires (R176, R194). -/
abbrev Offers (s : State) (p : Port) (k : ReqKind) (r : Request) (rest : List Request) : Prop :=
  OffersRequest s p r rest ∧ r.kind = k ∧ lengthFits k r.payload.length = true

/-- The granted request has left its queue, and its port is the last served (R173, R175). -/
def State.granted (s : State) (p : Port) (rest : List Request) : State :=
  { s with
    ports := s.ports.modify p fun b => { b with queue := rest }
    arb := { s.arb with lastServed := p } }

/-- The answer to a request stands at the newest end of its port's answer buffer (R174, R175). -/
def State.answered (s : State) (p : Port) (r : Request) (status : Status) (payload : List Byte) : State :=
  { s with ports := s.ports.modify p fun b => { b with answers := b.answers ++ [⟨r.tag, ⟨status, payload⟩⟩] } }

/-- The level of CALEN has been read (R77). -/
def State.strapped (s : State) (calen : Bool) : State := { s with pins := { s.pins with calen := calen } }

/-- The item in front of the arbiter has its turn (R175). -/
abbrev OffersItem (s : State) (i : Item) (rest : List Item) : Prop := s.power = .running ∧ s.arb.items = i :: rest

/-- One more notice of a kind has been counted in a port's pacer, saturating (R182). -/
abbrev noticed (s t : State) (p : Port) (k : NoticeKind) : Prop :=
  (t.port p).pacer.count k = min ((s.port p).pacer.count k + 1) 255

/-- Both pacers have counted one more notice of a kind (R182). -/
abbrev noticedBoth (s t : State) (k : NoticeKind) : Prop := noticed s t .cab k ∧ noticed s t .fleet k

/-- Both pacers have counted as many notices of a kind as bays are named, saturating, and exactly those bays have joined
the kind's set (R182). -/
def namesBays (s t : State) (k : NoticeKind) (set : Pacer → Sides Bool) (named : Side → Bool) : Prop :=
  let n := (if named .left then 1 else 0) + (if named .right then 1 else 0)
  ∀ p, (t.port p).pacer.count k =
      (if n = 0 then (s.port p).pacer.count k else min ((s.port p).pacer.count k + n) 255) ∧
    ∀ d, (set (t.port p).pacer).get d = ((set (s.port p).pacer).get d || named d)

/-- BAY has been counted once for each bay whose state, load number or tag differs from what it was, naming it, and for
no other (R97). -/
abbrev bayNotices (s t : State) : Prop :=
  namesBays s t .bay (fun pc => pc.bayBays) fun d =>
    decide ((s.bay d).state ≠ (t.bay d).state ∨ (s.bay d).load ≠ (t.bay d).load ∨ (s.bay d).tag ≠ (t.bay d).tag)

/-- A record has been appended to the log: a log of 64 first loses its oldest; a port that had read none of 64 counts a
miss, and any other has one more unread (R148, R149). -/
abbrev appended (s t : State) (r : LogRecord) : Prop :=
  let full := 64 ≤ s.log.records.length
  t.log.records = (if full then s.log.records.drop 1 else s.log.records) ++ [r] ∧
    ∀ p,
      (full ∧ s.log.unread.get p = 64 → t.log.unread.get p = 64 ∧
        t.log.missed.get p = min (s.log.missed.get p + 1) 65535) ∧
      (¬(full ∧ s.log.unread.get p = 64) → t.log.unread.get p = s.log.unread.get p + 1 ∧
        t.log.missed.get p = s.log.missed.get p)

/-- What a port becomes by sending `n` bytes (R171, R172, R174): the next bytes of its answers go out, and on the Cab
port the filler 0x00 when there is none; an answer leaves the buffer with its last check byte, and what is left of the
oldest goes out next. `out` holds the bytes that went (notes/assumptions/40.md). -/
def sends (p : Port) (n : Nat) (b b' : PortBlock) : Prop :=
  let left := (b.answers.flatMap Answer.bytes).drop b.sent
  b' = { b with answers := b'.answers, sent := b'.sent, out := b'.out } ∧
    b'.out = left.take n ++ (if p = .cab then List.replicate (n - left.length) 0x00 else []) ∧
    (∃ k, b'.answers = b.answers.drop k) ∧ (b'.answers.flatMap Answer.bytes).drop b'.sent = left.drop n ∧
    match b'.answers with
    | [] => b'.sent = 0
    | a :: _ => b'.sent < a.bytes.length

/-- What a port becomes by receiving `n` bytes: on the Cab port as many go out (R171), on the Fleet port none
(R172). -/
abbrev receives (p : Port) (n : Nat) (b b' : PortBlock) : Prop :=
  (p = .cab → sends .cab n b b') ∧ (p = .fleet → b' = b)

/-- What a grant may touch of the ports: the pacers alone. -/
abbrev samePorts (s t : State) : Prop :=
  ∀ p, t.port p = { s.port p with pacer := (t.port p).pacer }

/-- The command ends the last transaction of a sweep: its probe, with no slot ARMED, or the node access it stands at
(R11, R15). -/
def endsLast (c : Instr) (s : State) (sw : Sweep) : Bool :=
  match c with
  | .probe _ => decide (sw.toRead = [] ∧ sw.slot = none ∧ ∀ i : Fin 2, s.link.slots[i].isArmed = false)
  | .nodeRead _ => s.serving.map (fun x => x.2.2.dir) == some .read
  | .nodeWrite _ => s.serving.map (fun x => x.2.2.dir) == some .write
  | _ => false

/-- A part that runs comes to the end of a sweep with this command (R11). -/
abbrev SweepEnds (c : Instr) (s : State) (sw : Sweep) : Prop :=
  s.power = .running ∧ s.link.sweep = some sw ∧ endsLast c s sw = true

/-- A role is in OK or HOLD (R23). -/
abbrev inUse (x : RoleReading) : Prop := x.state = .ok ∨ x.state = .hold

/-- A role is in FAULT or UNBOUND (R29). -/
abbrev lost (x : RoleReading) : Prop := x.state = .fault ∨ x.state = .unbound

/-- BOOM and BUCKET are each in OK or HOLD (R23). -/
abbrev usable (r : SweepRecord) : Prop := inUse r.boom ∧ inUse r.bucket

/-- The record aborts an armed capture: HEAD, ROD or BOOM is in FAULT or UNBOUND, and was in OK or HOLD in the record
before it (R45). -/
abbrev aborts (s : State) (r : SweepRecord) : Prop :=
  s.tracker.capture.isSome = true ∧ ∃ q ∈ s.tracker.prevRecord,
    (inUse q.head ∧ lost r.head) ∨ (inUse q.rod ∧ lost r.rod) ∨ (inUse q.boom ∧ lost r.boom)

/-- Behind the items that wait stand these outcomes, in order, and the sweep's tag events, in the order of their reads;
where the outcomes stand among the tag events is not said (R13, R46; notes/assumptions/9.md). -/
def handsItems (s t : State) (sw : Sweep) (outcomes : List Item) : Prop :=
  let tags := sw.tags.map Item.tag
  ∃ k, t.arb.items = s.arb.items ++ tags.take k ++ outcomes ++ tags.drop k

/-- The record hands these outcomes, with the aborted capture outcome before or after them when it aborts an armed
capture (R45, R46; notes/assumptions/8.md). -/
def hands (s t : State) (sw : Sweep) (outcomes : List Item) : Prop :=
  (¬aborts s (sweepRecord s.link sw) → handsItems s t sw outcomes) ∧
  (aborts s (sweepRecord s.link sw) → ∃ k ∈ s.tracker.capture,
    handsItems s t sw (.capture k none :: outcomes) ∨ handsItems s t sw (outcomes ++ [.capture k none]))

/-- The capture bins, all empty (R45). -/
abbrev noForces : Vector CaptureBin 16 := Vector.replicate 16 ⟨0, 0⟩

/-- The window accumulator, empty (R52). -/
abbrev noSamples : Accumulator := ⟨0, 0, none, none, 0, false, false, false, false⟩

/-- The accumulator can give a weighed result: not abandoned, and with N_min samples (R30, R39, R42). -/
abbrev weighable (a : Accumulator) (f : Profile) : Prop := a.abandoned = false ∧ f.minSamples ≤ a.count

/-- The mean of the samples, rounded half up (R50). -/
abbrev meanMass (a : Accumulator) : Int := floorDiv (2 * a.sum + a.count) (2 * a.count)

/-- A mean less the zero trim, from 0 to 30,000 kg (R39, R62). -/
abbrev netMass (s : State) (a : Accumulator) : Nat := (clamp 0 30000 (meanMass a - s.weigh.zeroTrim)).toNat

/-- The lift rate of the record is present and lies in the band (R25, R54, R81). -/
abbrev rateFits (s : State) (r : SweepRecord) : Prop :=
  ∃ p ∈ s.tracker.prevBoom, ∃ b ∈ r.boom.value,
    (s.cal.profile.rateMin : Int) ≤ b - p ∧ b - p ≤ s.cal.profile.rateMax

/-- HEAD, ROD and BOOM are in OK and the supply is NORMAL (R54, R81). -/
abbrev measures (s : State) (r : SweepRecord) : Prop :=
  r.head.state = .ok ∧ r.rod.state = .ok ∧ r.boom.state = .ok ∧ s.supply.state = .normal

/-- The boom plus the pitch, which counts as 0 unless PITCH is in OK (R57, R72). -/
abbrev trueAngle (r : SweepRecord) : Int := r.boom.number + if r.pitch.state = .ok then r.pitch.number else 0

/-- What a weighing sweep makes of the accumulator (R53, R54, R61): an abandoned one stays; a sweep that is not taken
is counted as skipped; a taken one adds its sample, or past 255 samples sets SLOW. -/
def weighedSweep (a : Accumulator) (taken : Bool) (m : Int) (sat nopitch : Bool) : Accumulator :=
  if a.abandoned then a
  else if !taken then { a with skipped := min (a.skipped + 1) 255 }
  else if 255 ≤ a.count then { a with slow := true }
  else ⟨a.sum + m, a.count + 1, some (min (a.min.getD m) m), some (max (a.max.getD m) m), a.skipped, a.sat || sat,
    a.nopitch || nopitch, a.slow, false⟩

/-- A lift, a window or a carry: a cycle in progress (R21). -/
abbrev cycling (c : CycleState) : Prop := c = .lift ∨ c = .weigh ∨ c = .carry

/-- The figures of a truck, as a bay copies them. -/
abbrev bayTakes (b : Bay) (tag : Nat) (ref : Option TruckRef) (material : Fin 16) (target max : Nat) : Prop :=
  b.tag = some tag ∧ b.ref = ref ∧ b.material = material ∧ b.target = target ∧ b.max = max

/-- The truck table identifies a tag for a bay (R103): from the table before, under a profile and at a clock, come the
table after and the figures the bay takes. -/
def Identified (f : Profile) (clock : Clock) (old new : Vector TruckSet 8) (b : Bay) (tag : Nat) : Prop :=
  match old[setOf tag].find tag with
  | some w =>
    let e := old[setOf tag].ways[w]
    bayTakes b tag (some ⟨setOf tag, w⟩) e.material e.target e.max ∧
      new = old.set (setOf tag) ((old[setOf tag].put w { e with lastSeen := some clock }).touch w)
  | none =>
    match old[setOf tag].victim with
    | some w =>
      bayTakes b tag (some ⟨setOf tag, w⟩) f.defMaterial f.defTarget f.defMax ∧
        new = old.set (setOf tag)
          ((old[setOf tag].put w ⟨true, false, tag, f.defTarget, f.defMax, f.defMaterial, 0, 0, some clock⟩).touch w)
    | none => bayTakes b tag none f.defMaterial f.defTarget f.defMax ∧ new = old

/-- The reference of the bay beside an identification: it is lost when the table takes for the tag a way whose valid
entry it names (R103, R133). -/
def refBeside (trucks : Vector TruckSet 8) (tag : Nat) (ref : Option TruckRef) : Option TruckRef :=
  match trucks[setOf tag].find tag, trucks[setOf tag].victim with
  | none, some w => if trucks[setOf tag].ways[w].valid = true ∧ ref = some ⟨setOf tag, w⟩ then none else ref
  | _, _ => ref

/-- The load number that the bay beside a close keeps or takes, with the next load number after it (R101). -/
def renumbered (other logged next : Nat) : Nat × Nat :=
  if other ≠ 0 ∧ other < logged then (next, nextLoadAfter next) else (other, next)

/-- A load number or reference that a close leaves (R101): a truck-dump reference to a renumbered load takes the new
number. -/
def renumberedRef (ref : Option DumpRef) (d : Side) (other logged next : Nat) : Option DumpRef :=
  ref.map fun r =>
    if r.side = d ∧ r.load = other ∧ other ≠ 0 ∧ other < logged then { r with load := next } else r

/-- The LOAD record of a bay (R114, R146). -/
def closing (b : Bay) (d : Side) (reason : CloseReason) (s : State) : LoadRecord :=
  ⟨b.load, d, b.tag, b.material, b.target, b.max, b.total, b.passes.map fun p => p.net, Flags.summary b.passes, reason,
    b.opened, s.clock, s.shift.number⟩

/-- The truck table after a close: the referenced entry counts a trip, untouched (R114, R139). -/
def tripped (s : State) (b : Bay) : Vector TruckSet 8 :=
  match b.ref with
  | none => s.trucks
  | some ref =>
    let e := s.trucks[ref.set].ways[ref.way]
    s.trucks.set ref.set (s.trucks[ref.set].put ref.way
      { e with trips := min (e.trips + 1) max16, lastPayload := b.total, lastSeen := some s.clock })

/-- The shift counters after a close that logs a load (R114, R153). -/
def closedCounters (c : Counters) (total : Nat) : Counters :=
  { c with loadsClosed := min (c.loadsClosed + 1) max16, payloadKg := min (c.payloadKg + total) max32 }

/-- What an arriving truck leaves alone: everything but the bays, the truck table, the log, the shift counters, the
truck-dump reference, the pacers and the arbiter. -/
abbrev arrivalFrame (s t : State) : Prop :=
  t = { s with bays := t.bays, trucks := t.trucks, log := t.log, shift := t.shift, tracker := t.tracker,
               ports := t.ports, arb := t.arb } ∧
    t.bays.active = s.bays.active ∧ t.bays.residueReport = s.bays.residueReport ∧
    t.tracker = { s.tracker with dumpRef := t.tracker.dumpRef } ∧
    t.shift = { s.shift with counters := t.shift.counters }

/-- A truck whose tag the other bay does not hold arrives at bay `d` (R103, R105, R106): an EMPTY bay opens a load, a
READY bay replaces its truck, an anonymous load adopts the tag, the same tag is ignored, and a loading bay with
another tag closes NEW_TRUCK, which is logged and noticed, and opens. The bay beside it can lose only its reference,
to an entry that the table takes, or be renumbered; BAY is raised for the bays that changed. -/
def ArrivalEffect (s t : State) (d : Side) (tag : Nat) : Prop :=
  let b := s.bay d
  let b' := t.bay d
  let o := s.bay d.other
  let o' := t.bay d.other
  let f := s.cal.profile
  let notLogged := t.log = s.log ∧ ∀ p, (t.port p).pacer.count .logged = (s.port p).pacer.count .logged
  arrivalFrame s t ∧ t.bays.crossReads = s.bays.crossReads ∧ bayNotices s t ∧
  (b.state = .empty →
    b'.state = bayStateFor s.bays.nextLoad [] 0 b'.target b'.max ∧ b'.load = s.bays.nextLoad ∧ b'.opened = s.clock ∧
      b'.passes = [] ∧ b'.total = 0 ∧ t.bays.nextLoad = nextLoadAfter s.bays.nextLoad ∧
      Identified f s.clock s.trucks t.trucks b' tag ∧ o' = { o with ref := refBeside s.trucks tag o.ref } ∧
      notLogged ∧ t.shift = s.shift ∧ t.tracker = s.tracker) ∧
  (b.state ≠ .empty → b.tag = some tag →
    t.bays = s.bays ∧ t.trucks = s.trucks ∧ notLogged ∧ t.shift = s.shift ∧ t.tracker = s.tracker) ∧
  ((b.state = .ready ∧ b.tag ≠ some tag) ∨ (b.state ≠ .empty ∧ b.tag = none) →
    b'.state = bayStateFor b.load b.passes b.total b'.target b'.max ∧ b'.load = b.load ∧ b'.opened = b.opened ∧
      b'.passes = b.passes ∧ b'.total = b.total ∧ t.bays.nextLoad = s.bays.nextLoad ∧
      Identified f s.clock s.trucks t.trucks b' tag ∧ o' = { o with ref := refBeside s.trucks tag o.ref } ∧
      notLogged ∧ t.shift = s.shift ∧ t.tracker = s.tracker) ∧
  (b.state ≠ .empty → b.state ≠ .ready → b.tag.isSome → b.tag ≠ some tag →
    let r := renumbered o.load b.load s.bays.nextLoad
    b'.load = r.2 ∧ b'.state = bayStateFor r.2 [] 0 b'.target b'.max ∧ b'.opened = s.clock ∧ b'.passes = [] ∧
      b'.total = 0 ∧ t.bays.nextLoad = nextLoadAfter r.2 ∧
      Identified f s.clock (tripped s b) t.trucks b' tag ∧
      o' = { o with load := r.1, ref := refBeside (tripped s b) tag o.ref } ∧
      appended s t (.load (closing b d .newTruck s)) ∧ noticedBoth s t .logged ∧
      t.shift.counters = closedCounters s.shift.counters b.total ∧
      t.tracker.dumpRef = renumberedRef s.tracker.dumpRef d.other o.load b.load s.bays.nextLoad)

/-! ### Words about who writes what -/

end Sys2Proof.Machine

namespace Sys2Proof

open Sys2Proof.Machine

/-- The commands that reset the part or take its power. -/
def Instr.resets : Instr → Bool
  | .powerOnReset | .powerCollapse | .pinReset | .pinResetRelease => true
  | _ => false

/-- The commands that carry the level of a pin: those of chip select, and the requests that read CALEN. -/
def Instr.writesPins : Instr → Bool
  | .cabCsNRise | .cabCsNFall | .viewPart .. | .stagePiece .. | .stageFill .. | .startCapture .. | .abortCapture ..
  | .installCurve .. | .setProfile .. => true
  | _ => false

/-- The commands that may change the machine clock. -/
def Instr.writesClock : Instr → Bool
  | .clockTick | .setTime _ | .restoreSnapshot _ => true
  | _ => false

/-- The ends of a sweep's last position, which give the tracker its record. -/
def Instr.endsSweep : Instr → Bool
  | .probe _ | .nodeRead _ | .nodeWrite _ => true
  | _ => false

/-- The commands that may change the sensor link controller. -/
def Instr.writesLink (c : Instr) : Bool :=
  c.endsSweep || match c with
    | .sweepStart | .readValue .. | .viewNodes _ | .nodeAccess _ | .nodeResult _ => true
    | _ => false

/-- The commands that may change the window accumulator and the capture bins. -/
def Instr.writesWindow (c : Instr) : Bool :=
  c.endsSweep || match c with
    | .startCapture .. | .abortCapture .. | .supplyMeasurement _ => true
    | _ => false

/-- The commands that may close a load for another truck, or open one. -/
def Instr.bringsTruck : Instr → Bool
  | .tagEvent | .assignTruck _ => true
  | _ => false

/-- The commands that may change the cycle tracker. -/
def Instr.writesTracker (c : Instr) : Bool :=
  c.writesWindow || c.bringsTruck || match c with
    | .truckDump | .closeLoad _ | .zeroBucket _ | .cancelZero _ | .clockTick => true
    | _ => false

/-- The commands that may change the zero trim. -/
def Instr.writesTrim : Instr → Bool
  | .zero | .restoreSnapshot _ => true
  | _ => false

/-- The command that may change the active curve and its generation. -/
def Instr.writesCurve : Instr → Bool
  | .installCurve .. => true
  | _ => false

/-- The commands that may change the staging curve. -/
def Instr.writesStaging : Instr → Bool
  | .capture | .stagePiece .. | .stageFill .. | .installCurve .. | .setProfile .. => true
  | _ => false

/-- The command that may change the profile. -/
def Instr.writesProfile : Instr → Bool
  | .setProfile .. => true
  | _ => false

/-- The commands that may change the bay manager. -/
def Instr.writesBays (c : Instr) : Bool :=
  c.bringsTruck || match c with
    | .truckDump | .residue | .selectBay _ | .closeLoad _ | .setLoadTarget _ | .writeTruck _ | .dropTruck _
    | .restoreSnapshot _ => true
    | _ => false

/-- The commands that may change the truck table. -/
def Instr.writesTrucks (c : Instr) : Bool :=
  c.bringsTruck || match c with
    | .closeLoad _ | .writeTruck _ | .dropTruck _ => true
    | _ => false

/-- The commands that may change the production log. -/
def Instr.writesLog (c : Instr) : Bool :=
  c.bringsTruck || match c with
    | .closeLoad _ | .endShift _ | .nextRecord _ => true
    | _ => false

/-- The commands that may change the shift counters block. -/
def Instr.writesShift (c : Instr) : Bool :=
  c.bringsTruck || match c with
    | .truckDump | .pileDump | .reweigh | .lostCycle | .residue | .closeLoad _ | .endShift _ | .restoreSnapshot _
    | .supplyMeasurement _ => true
    | _ => false

/-- The commands that may ask for a free value. -/
def Instr.asksConfig (c : Instr) : Bool := c.endsSweep

/-- The kind and the port of the request that a command grants. -/
def Instr.request : Instr → Option (ReqKind × Port)
  | .viewLive p => some (.viewLive, p)
  | .viewBay p => some (.viewBay, p)
  | .viewTruck p => some (.viewTruck, p)
  | .viewMaterial p => some (.viewMaterial, p)
  | .viewCounters p => some (.viewCounters, p)
  | .nextRecord p => some (.nextRecord, p)
  | .viewNodes p => some (.viewNodes, p)
  | .viewCurve p => some (.viewCurve, p)
  | .viewProfile p => some (.viewProfile, p)
  | .viewPort p => some (.viewPort, p)
  | .collectNotices p => some (.collectNotices, p)
  | .setNotices p => some (.setNotices, p)
  | .takeSnapshot p => some (.takeSnapshot, p)
  | .selectBay p => some (.selectBay, p)
  | .assignTruck p => some (.assignTruck, p)
  | .closeLoad p => some (.closeLoad, p)
  | .setLoadTarget p => some (.setLoadTarget, p)
  | .zeroBucket p => some (.zeroBucket, p)
  | .cancelZero p => some (.cancelZero, p)
  | .endShift p => some (.endShift, p)
  | .restoreSnapshot p => some (.restoreSnapshot, p)
  | .writeTruck p => some (.writeTruck, p)
  | .dropTruck p => some (.dropTruck, p)
  | .writeMaterial p => some (.writeMaterial, p)
  | .setTime p => some (.setTime, p)
  | .nodeAccess p => some (.nodeAccess, p)
  | .nodeResult p => some (.nodeResult, p)
  | .viewPart p _ => some (.viewPart, p)
  | .stagePiece p _ => some (.stagePiece, p)
  | .stageFill p _ => some (.stageFill, p)
  | .startCapture p _ => some (.startCapture, p)
  | .abortCapture p _ => some (.abortCapture, p)
  | .installCurve p _ => some (.installCurve, p)
  | .setProfile p _ => some (.setProfile, p)
  | _ => none

/-- The command that grants an outcome or tag event. -/
def grantOf : Item → Instr
  | .tag _ => .tagEvent
  | .truckDump .. => .truckDump
  | .pileDump _ => .pileDump
  | .reweigh => .reweigh
  | .lostCycle => .lostCycle
  | .residue .. => .residue
  | .zero _ => .zero
  | .capture .. => .capture

/-- The grants of outcomes and tag events. -/
def Instr.grantsItem : Instr → Bool
  | .tagEvent | .truckDump | .pileDump | .reweigh | .lostCycle | .residue | .zero | .capture => true
  | _ => false

/-- The commands that may change what waits at the arbiter. -/
def Instr.writesItems (c : Instr) : Bool :=
  c.grantsItem || c.endsSweep || match c with
    | .supplyMeasurement _ => true
    | _ => false

/-- The commands that may clear the fresh flag. -/
def Instr.clearsFresh (c : Instr) : Bool :=
  c.bringsTruck || match c with
    | .truckDump | .pileDump | .reweigh | .lostCycle | .residue | .closeLoad _ | .setLoadTarget _ | .endShift _
    | .restoreSnapshot _ | .writeTruck _ | .dropTruck _ => true
    | _ => false

/-- The command may act on the receiver, the queue or the answer buffer of a port. -/
def Instr.actsOn (c : Instr) (p : Port) : Bool :=
  match c with
  | .cabCsNRise => p == .cab
  | .frameGapTimeout => p == .fleet
  | .frameArrival q _ | .frameDiscard q _ | .syncByteReceived q => q == p
  | .answerSent x => x.port == p
  | _ => c.request.map (fun x => x.2) == some p

/-- The commands that may raise a notice, and those that act on the pacer of a port. -/
def Instr.writesPacer (c : Instr) (p : Port) : Bool :=
  c.endsSweep || c.bringsTruck || match c with
    | .sweepStart | .readValue .. | .truckDump | .pileDump | .residue | .zero | .capture | .supplyMeasurement _
    | .closeLoad _ | .setLoadTarget _ | .endShift _ | .restoreSnapshot _ => true
    | .paceTimerExpiry q | .collectNotices q | .setNotices q => q == p
    | _ => false

/-- A port moves bytes: the part runs, and on the Cab port a chip-select period is open (R171). -/
def portMoves (s : State) (p : Port) : Prop := s.power = .running ∧ (p = .cab → s.pins.csLow = true)

/-- The event that a command names can occur in a state: the pins and the supply of power move at any time, the clock
while a reset holds the part, and everything else on a running part, the transaction of a sweep at its place, a grant
at its turn, a byte event on an open port that assembles, hunts or has bytes to send as the event needs, with no more
bytes of a frame gathered than the frame has (R11, R165 to R167, R170 to R175, R185). -/
def Instr.canOccur (c : Instr) (s : State) : Prop :=
  match c with
  | .powerOnReset | .powerCollapse | .pinReset | .pinResetRelease | .cabCsNFall | .cabCsNRise => True
  | .clockTick => s.power = .running ∨ s.power = .held .pin
  | .supplyMeasurement _ => s.power = .running
  | .sweepStart => s.power = .running ∧ s.link.sweep = none
  | .readValue role _ => s.power = .running ∧ ∃ sw ∈ s.link.sweep,
      sw.toRead.head? = some role ∧ (s.link.roles.get role).bound.isSome = true
  | .probe _ => s.power = .running ∧ ∃ sw ∈ s.link.sweep, sw.toRead = [] ∧ sw.slot = none
  | .nodeRead _ => s.power = .running ∧ ∃ sw ∈ s.link.sweep, ∃ i ∈ sw.slot, ∃ a,
      s.link.slots[i] = .armed a ∧ a.dir = .read
  | .nodeWrite _ => s.power = .running ∧ ∃ sw ∈ s.link.sweep, ∃ i ∈ sw.slot, ∃ a,
      s.link.slots[i] = .armed a ∧ a.dir = .write
  | .tagEvent | .truckDump | .pileDump | .reweigh | .lostCycle | .residue | .zero | .capture =>
    s.power = .running ∧ s.arb.items.head?.map grantOf = some c
  | .syncByteReceived p => portMoves s p ∧ (s.port p).assembler = .hunting
  | .frameArrival p f => portMoves s p ∧ ∃ g, (s.port p).assembler = .assembling g ∧
      g ≤ if f.payload.length ≤ 480 then f.payload.length + 6 else 2
  | .frameDiscard p cause => portMoves s p ∧ cause.wf p = true ∧ ∃ g, (s.port p).assembler = .assembling g ∧
      (cause ≠ .brokenByte → g ≤ 2)
  | .frameGapTimeout => s.power = .running ∧ ∃ g, (s.port .fleet).assembler = .assembling g
  | .answerSent x => portMoves s x.port ∧ match x.port with
    | .cab => ∀ g, (s.port .cab).assembler = .assembling g → g + x.bytes ≤ 486
    | .fleet => x.bytes ≤ ((s.port .fleet).answers.flatMap Answer.bytes).length - (s.port .fleet).sent
  | .paceTimerExpiry p => s.power = .running ∧ (s.port p).pacer.timer ≠ none
  | c => ∃ k p, c.request = some (k, p) ∧ ∃ r rest, OffersRequest s p r rest ∧ r.kind = k

end Sys2Proof

open Sys2Proof Sys2Proof.Machine

/-! ## The machine -/

/-- A step takes the command in front of the queue and runs it on the rest; with none waiting the block idles, which
is the model's choice (notes/assumptions/3.md). -/
def Obligations.StepTakesFrontCommand : Prop :=
  (∀ (c : Instr) (rest : List Instr) (s : State), s.pending = c :: rest → step s = exec c { s with pending := rest }) ∧
  (∀ s : State, s.pending = [] → step s = .next s)

/-- Every command completes with a next state, and none touches the queue. A command whose event cannot occur in a
state, among them a grant out of its turn, leaves the state as it is, which is the model's choice
(notes/assumptions/1.md, 2.md; for the Cab port's period, 34.md). -/
def Obligations.CommandsCompleteAndKeepQueue : Prop :=
  (∀ (c : Instr) (s : State), ∃ t, exec c s = .next t ∧ t.pending = s.pending) ∧
  (∀ (c : Instr) (s : State), ¬c.canOccur s → exec c s = .next s)

/-! ## Resets, supply and clock -/

/-- The values that the manual gives for a power-on reset, the material table's labels among them (DEFAULT and a space,
eight blanks) and the pacers' counts, sets and enables. The supply figures before the first measurement and the
pin levels are the model's (notes/assumptions/5.md, 6.md), and are left out. -/
def Obligations.PowerOnDefaultsAreTheManuals : Prop :=
  let s := State.reset
  s.clock = 0 ∧ s.resetRecord = ⟨.powerOn, 0⟩ ∧
  -- R18
  (∀ i : Fin 16, s.link.presence[i] = ⟨false, none, 0⟩) ∧ s.link.probePtr = 0 ∧
  (∀ role ∈ Role.all, (s.link.roles.get role).state = .fault ∧ (s.link.roles.get role).misses = 0 ∧
    (s.link.roles.get role).recoveries = 0 ∧ (s.link.roles.get role).lastGood = none) ∧
  Role.all.map (fun r => (s.link.roles.get r).bound) =
    [some 1, some 2, some 3, some 4, some 5, some 6, some 8, some 9] ∧
  (∀ i : Fin 2, s.link.slots[i] = .free) ∧ s.link.lastServed = 1 ∧ s.link.zeroTags = 0 ∧ s.link.period = 10 ∧
  -- R48, R73
  s.tracker.cycle = .idle ∧ s.tracker.prevBoom = none ∧ s.tracker.timer = 0 ∧ s.tracker.held = none ∧
  s.tracker.residuePending = false ∧ s.tracker.dumpRef = none ∧ s.tracker.zeroPending = false ∧
  s.tracker.capture = none ∧ s.tracker.overload = ⟨false, false⟩ ∧ s.tracker.lastZero = none ∧
  s.weigh.acc = ⟨0, 0, none, none, 0, false, false, false, false⟩ ∧ (∀ i : Fin 16, s.weigh.bins[i] = ⟨0, 0⟩) ∧
  s.weigh.zeroTrim = 0 ∧
  -- R95
  (∀ i : Fin 16, s.cal.active[i] = ⟨0, 1336⟩ ∧ s.cal.staging[i] = ⟨0, 1336, false, false⟩) ∧
  s.cal.generation = 0 ∧ s.cal.report = none ∧
  s.cal.profile =
    ⟨10, 50894, 35186, -2500, 500, 2500, 3500, -2500, 4, 80, 6, 400, 150, 500, .double, 6400, 40000, 44000, 0,
      -1000, 500, 1, ⟨some 1, some 2, some 3, some 4, some 5, some 6, some 8, some 9⟩⟩ ∧
  -- R124
  (∀ d, s.bay d = ⟨.empty, 0, none, none, 0, 40000, 44000, 0, [], 0⟩) ∧ s.bays.active = .left ∧
  s.bays.nextLoad = 1 ∧ s.bays.crossReads = 0 ∧ s.bays.residueReport = none ∧
  -- R144
  (∀ (i : Fin 8) (w : Fin 4), s.trucks[i].ways[w].valid = false ∧ s.trucks[i].ways[w].pinned = false ∧
    s.trucks[i].ways[w].trips = 0 ∧ s.trucks[i].ways[w].lastPayload = 0) ∧
  (∀ i : Fin 8, s.trucks[i].root = false ∧ s.trucks[i].pairA = false ∧ s.trucks[i].pairB = false) ∧
  (∀ i : Fin 16, s.materials[i] =
    if i = 0 then ⟨1600, [0x44, 0x45, 0x46, 0x41, 0x55, 0x4C, 0x54, 0x20]⟩ else ⟨0, List.replicate 8 0x20⟩) ∧
  -- R159
  s.log = ⟨[], ⟨0, 0⟩, ⟨0, 0⟩⟩ ∧ s.shift.number = 1 ∧ s.shift.start = 0 ∧
  s.shift.counters = ⟨0, 0, 0, 0, 0, 0, 0, 0, 0, 0⟩ ∧
  -- R164
  s.supply.state = .normal ∧ s.supply.lowCount = 0 ∧ s.supply.highCount = 0 ∧
  -- R186
  (∀ p, (s.port p).assembler = .hunting ∧ (s.port p).queue = [] ∧ (s.port p).answers = [] ∧
    (s.port p).sent = 0 ∧ (s.port p).discarded = 0 ∧ (∀ i : Fin 12, (s.port p).pacer.pending[i] = 0) ∧
    (s.port p).pacer.timer = none ∧ (s.port p).pacer.line = false ∧
    (∀ d, (s.port p).pacer.passBays.get d = false ∧ (s.port p).pacer.bayBays.get d = false ∧
      (s.port p).pacer.overloadBays.get d = false) ∧
    ∀ role, (s.port p).pacer.sensorRoles.get role = false) ∧
  (s.port .cab).pacer.enables = 0x7FF ∧ (s.port .cab).pacer.interval = 10 ∧
  (s.port .fleet).pacer.enables = 0x9E0 ∧ (s.port .fleet).pacer.interval = 100 ∧
  s.arb = ⟨[], .fleet, true⟩

/-- POWER_ON_RESET gives every block its power-on defaults, held in reset while RESET_N is low; POWER_COLLAPSE ends
all activity. The pins, the queue and the free-value counter are not the part's, and stay; what a part without power
holds is the model's choice (notes/assumptions/11.md). Of the values so given, the last VSYS, the minimum since reset
and the minimum VSYS of the shift, each 400, are the model's choice and no rule's (6.md), and so are the tag, target,
max, material and last-seen time of the invalid truck entries (22.md). The ports' `out` is the model's own field
(40.md). -/
def Obligations.PowerEventsGiveDefaults : Prop :=
  ∀ s : State,
    exec .powerOnReset s = .next { State.reset with
      power := if s.pins.resetLow then .held .powerOn else .running, pins := s.pins, openChoice := s.openChoice,
      pending := s.pending } ∧
    exec .powerCollapse s = .next { State.reset with
      power := .off, pins := s.pins, openChoice := s.openChoice, pending := s.pending }

/-- While the part is without power or held in reset, no command but a power event, the release of RESET_N and the
clock's tick changes anything inside it (R165, R166); that such a command does nothing, and that the pins still take
their levels, is the model's choice (notes/assumptions/1.md, 12.md). -/
def Obligations.HeldPartDoesNothing : Prop :=
  ∀ (c : Instr) (s t : State), s.power ≠ .running → c ≠ .powerOnReset → c ≠ .powerCollapse →
    c ≠ .pinResetRelease → c ≠ .clockTick → exec c s = .next t → t = { s with pins := t.pins }

/-- PIN_RESET drops the work in progress and deasserts both lines; PIN_RESET_RELEASE gives every block its pin-reset
values and keeps the state of R166's table; a power-on reset takes precedence. Which moment drops the work and which
gives the values is the model's choice (notes/assumptions/12.md, 13.md). Of the values that a release gives, the last
VSYS, the minimum since reset and the minimum VSYS of the shift, each 400, are the model's choice and no rule's (6.md);
so are the other fields of the invalid truck entries after a release that ends a power-on reset (22.md). The ports'
`out` is the model's own field (40.md). -/
def Obligations.PinResetClearsWorkAndKeepsRecords : Prop :=
  (∀ s : State, s.power = .running → ∃ t, exec .pinReset s = .next t ∧
    t = { s with power := .held .pin, pins := { s.pins with resetLow := true }, link := { s.link with sweep := none },
                 arb := { s.arb with items := [] }, ports := t.ports } ∧
    ∀ p, (t.port p).assembler = .hunting ∧ (t.port p).queue = [] ∧ (t.port p).answers = [] ∧
      (t.port p).sent = 0 ∧ (t.port p).pacer = { (s.port p).pacer with line := false }) ∧
  (∀ s : State, s.power = .held .pin → exec .pinResetRelease s = .next { State.reset with
    power := .running
    pins := { s.pins with resetLow := false }
    clock := s.clock
    resetRecord := ⟨.pin, s.clock⟩
    link := Link.afterReset s.cal.profile.binding s.cal.profile.sweepPeriod
    weigh := { State.reset.weigh with zeroTrim := s.weigh.zeroTrim }
    cal := { s.cal with
      staging := s.cal.staging.map fun (x : StagingBin) => { x with eValid := false, sValid := false }
      report := none }
    bays := Bays.afterReset s.cal.profile s.bays.nextLoad
    trucks := s.trucks
    materials := s.materials
    shift := Shift.afterReset s.shift.number s.clock
    openChoice := s.openChoice
    pending := s.pending }) ∧
  (∀ s : State, s.power = .held .powerOn → exec .pinResetRelease s = .next { State.reset with
    power := .running, pins := { s.pins with resetLow := false }, openChoice := s.openChoice, pending := s.pending })

/-- A tick advances the clock, wrapping to 0, through a pin reset too; while the part runs it counts the cycle timer
outside IDLE, saturating (R26, R167; that the cycle timer runs exactly outside IDLE, and stands still in a pin reset,
notes/assumptions/12.md, 30.md). -/
def Obligations.ClockTickAdvancesClockAndCycleTimer : Prop :=
  (∀ s : State, s.power = .running → exec .clockTick s = .next { s with
    clock := s.clock + 1
    tracker := { s.tracker with
      timer := if s.tracker.cycle = .idle then s.tracker.timer else min (s.tracker.timer + 1) 65535 } }) ∧
  (∀ s : State, s.power = .held .pin → exec .clockTick s = .next { s with clock := s.clock + 1 })

/-- A supply measurement sets the last VSYS and both minima and moves the monitor by the table of R162, against the
warn level of the profile and a release level 1.0 V above it; a change of state raises SUPPLY in both pacers; an entry
to LOW abandons a weighing and aborts an armed capture; nothing else changes (R155, R161 to R164). The first measurement
after a reset sets both minima as a later one lowers them, because the model lets them stand at 400 until then
(notes/assumptions/6.md). -/
def Obligations.SupplyMeasurementIsJudged : Prop :=
  ∀ (s : State) (vsys : Nat), s.power = .running →
    let v := min vsys 400
    let warn := [180, 200, 210, 220].getD s.cal.profile.warnLevel.val 0
    let m := s.supply
    ∃ t, exec (.supplyMeasurement vsys) s = .next t ∧
      t.supply.lastVsys = v ∧ t.supply.minSince = min m.minSince v ∧
      t.shift = { s.shift with minVsys := min s.shift.minVsys v } ∧
      (m.state = .normal → v < warn → m.lowCount + 1 < 3 →
        t.supply.state = .normal ∧ t.supply.lowCount = m.lowCount + 1 ∧ t.supply.highCount = m.highCount) ∧
      (m.state = .normal → v < warn → 3 ≤ m.lowCount + 1 →
        t.supply.state = .low ∧ t.supply.lowCount = 0 ∧ t.supply.highCount = 0) ∧
      (m.state = .normal → warn ≤ v →
        t.supply.state = .normal ∧ t.supply.lowCount = 0 ∧ t.supply.highCount = m.highCount) ∧
      (m.state = .low → warn + 10 ≤ v → m.highCount + 1 < 3 →
        t.supply.state = .low ∧ t.supply.highCount = m.highCount + 1 ∧ t.supply.lowCount = m.lowCount) ∧
      (m.state = .low → warn + 10 ≤ v → 3 ≤ m.highCount + 1 →
        t.supply.state = .normal ∧ t.supply.lowCount = 0 ∧ t.supply.highCount = 0) ∧
      (m.state = .low → v < warn + 10 →
        t.supply.state = .low ∧ t.supply.highCount = 0 ∧ t.supply.lowCount = m.lowCount) ∧
      (t.supply.state = m.state → t = { s with supply := t.supply, shift := t.shift }) ∧
      (t.supply.state ≠ m.state → noticedBoth s t .supply ∧ samePorts s t) ∧
      (t.supply.state ≠ m.state → t.supply.state = .normal →
        t = { s with supply := t.supply, shift := t.shift, ports := t.ports }) ∧
      (t.supply.state ≠ m.state → t.supply.state = .low →
        t = { s with
          supply := t.supply
          shift := t.shift
          ports := t.ports
          weigh := { s.weigh with
            acc := if s.tracker.cycle = .weigh ∨ s.tracker.cycle = .check then { s.weigh.acc with abandoned := true }
              else s.weigh.acc
            bins := if s.tracker.capture.isSome then emptyBins else s.weigh.bins }
          tracker := { s.tracker with capture := none }
          arb := { s.arb with items := s.arb.items ++ (s.tracker.capture.toList.map fun k => .capture k none) } })

/-! ## Sensor link -/

/-- SWEEP_START begins a sweep at the profile's period, reading the bound roles in the order of R11. Every role whose
address the profile changed is placed anew, in FAULT or UNBOUND, and SENSOR names exactly the roles that thereby enter
or leave FAULT; the others keep their state (R9 to R11). -/
def Obligations.SweepStartBindsRolesAndReads : Prop :=
  ∀ s : State, s.power = .running → s.link.sweep = none →
    let f := s.cal.profile
    let moved := fun role => (s.link.roles.get role).bound ≠ f.binding.get role
    let named := fun role => moved role ∧ ¬((s.link.roles.get role).state = .fault ↔ (f.binding.get role).isSome)
    ∃ t, exec .sweepStart s = .next t ∧ t = { s with link := t.link, ports := t.ports } ∧ samePorts s t ∧
      t.link = { s.link with roles := t.link.roles, period := f.sweepPeriod, sweep := t.link.sweep } ∧
      t.link.sweep = some ⟨s.clock, Role.all.filter (fun r => (f.binding.get r).isSome), none, Roles.all false, []⟩ ∧
      (∀ role, ¬moved role → t.link.roles.get role = s.link.roles.get role) ∧
      (∀ role, moved role → t.link.roles.get role =
        ⟨f.binding.get role, if (f.binding.get role).isSome then .fault else .unbound, 0, 0, none⟩) ∧
      (∀ p role, (t.port p).pacer.sensorRoles.get role = true ↔
        (s.port p).pacer.sensorRoles.get role = true ∨ named role)

/-- An answer that comes late, fails its check or carries another address is the same as none, for every kind of
transaction (R1); and a received answer is judged good or bad, with the role value and marker of R6. -/
def Obligations.AnswersAreReceivedAndJudged : Prop :=
  (∀ (s : State) (role : Role) (a : ReadAnswer),
    (∀ addr ∈ (s.link.roles.get role).bound,
      100 < a.node.micros ∨ a.node.checkOk = false ∨ a.node.address ≠ addr) →
    exec (.readValue role (some a)) s = exec (.readValue role none) s) ∧
  (∀ (s : State) (a : NodeAnswer),
    100 < a.micros ∨ a.checkOk = false ∨ a.address ≠ s.link.probePtr → exec (.probe (some a)) s = exec (.probe none) s) ∧
  (∀ (s : State) (a : ItemAnswer),
    (∀ x ∈ s.serving, 100 < a.node.micros ∨ a.node.checkOk = false ∨ a.node.address ≠ x.2.2.address) →
    exec (.nodeRead (some a)) s = exec (.nodeRead none) s) ∧
  (∀ (s : State) (a : NodeAnswer),
    (∀ x ∈ s.serving, 100 < a.micros ∨ a.checkOk = false ∨ a.address ≠ x.2.2.address) →
    exec (.nodeWrite (some a)) s = exec (.nodeWrite none) s) ∧
  (∀ (role : Role) (a : ReadAnswer),
    a.node.type ≠ role.expects ∨ a.node.status = .fault → judge role a = .bad) ∧
  (∀ (role : Role) (a : ReadAnswer) (lo hi : Int), a.node.type = role.expects → role.range = some (lo, hi) →
    (a.node.status = .ok → lo ≤ a.value → a.value ≤ hi → judge role a = .good (some a.value) false) ∧
    (a.node.status = .ok → hi < a.value → judge role a = .good (some hi) true) ∧
    (a.node.status = .ok → a.value < lo → judge role a = .good (some lo) true) ∧
    (a.node.status = .overrange → |a.value - lo| < |a.value - hi| → judge role a = .good (some lo) true) ∧
    (a.node.status = .overrange → |a.value - hi| ≤ |a.value - lo| → judge role a = .good (some hi) true)) ∧
  (∀ (role : Role) (a : ReadAnswer), role.range = none → a.node.type = role.expects → a.node.status ≠ .fault →
    judge role a = .good none false)

/-- The end of a role's read moves that role by the table of R7 and by R8, and no other role; SENSOR is counted when it
enters or leaves FAULT (R9); a received answer updates the presence map (R3). The sweep keeps the marker of a good
answer and no other (R6, R12), and a measurement role's read brings no tag. That a role in recovery keeps the marker
too is the model's reading (notes/assumptions/32.md). -/
def Obligations.RoleReadMovesRole : Prop :=
  ∀ (s : State) (sw : Sweep) (rest : List Role) (role : Role) (addr : Fin 16) (reply : Option ReadAnswer),
    s.power = .running → s.link.sweep = some sw → sw.toRead = role :: rest →
    (s.link.roles.get role).bound = some addr →
    let heard := reply.filter fun a => a.node.received addr
    let r := s.link.roles.get role
    ∃ t, exec (.readValue role reply) s = .next t ∧
      let r' := t.link.roles.get role
      t = { s with link := t.link, ports := t.ports } ∧ samePorts s t ∧
      t.link = { s.link with
        presence := t.link.presence, roles := t.link.roles, zeroTags := t.link.zeroTags, sweep := t.link.sweep } ∧
      -- the over-range marker, and the tags, which a measurement role does not bring
      (∃ tags, t.link.sweep = some { sw with
        toRead := rest
        marked := sw.marked.modify role fun _ => match readResult role heard with
          | .good _ m => m
          | .bad | .miss => false
        tags := tags }) ∧
      (role ≠ .tagL → role ≠ .tagR →
        t.link.sweep.map (fun w => w.tags) = some sw.tags ∧ t.link.zeroTags = s.link.zeroTags) ∧
      (∀ q, q ≠ role → t.link.roles.get q = s.link.roles.get q) ∧
      (∀ a ∈ heard, t.link.presence = s.link.presence.set addr ⟨true, some a.node.type, 0⟩) ∧
      (heard = none → t.link.presence = s.link.presence) ∧
      -- good answers
      (∀ v m, readResult role heard = .good v m →
        (r.state = .ok ∨ r.state = .hold → r' = { r with state := .ok, misses := 0, recoveries := 0, lastGood := v }) ∧
        (r.state = .fault → r.recoveries < 4 → r' = { r with recoveries := r.recoveries + 1 }) ∧
        (r.state = .fault → r.recoveries = 4 →
          r' = { r with state := .ok, misses := 0, recoveries := 0, lastGood := v })) ∧
      -- misses
      (readResult role heard = .miss →
        (r.state = .ok → r' = { r with state := .hold, misses := 1 }) ∧
        (r.state = .hold → r.misses < 2 → r' = { r with misses := r.misses + 1 }) ∧
        (r.state = .hold → r.misses = 2 →
          r' = { r with state := .fault, misses := 0, recoveries := 0, lastGood := none }) ∧
        (r.state = .fault → r' = { r with recoveries := 0 })) ∧
      -- bad answers
      (readResult role heard = .bad →
        (r.state = .ok ∨ r.state = .hold →
          r' = { r with state := .fault, misses := 0, recoveries := 0, lastGood := none }) ∧
        (r.state = .fault → r' = { r with recoveries := 0 })) ∧
      -- notices
      ((r.state = .fault ↔ r'.state = .fault) → t.ports = s.ports) ∧
      (¬(r.state = .fault ↔ r'.state = .fault) →
        noticedBoth s t .sensor ∧ ∀ p, (t.port p).pacer.sensorRoles.get role = true)

/-- A tag reader's good, read-held answer whose role is in OK once it is applied brings its tag to the sweep, or counts
a zero tag; any other answer brings none and counts none (R13). -/
def Obligations.TagReadBecomesTagEvent : Prop :=
  ∀ (s : State) (sw : Sweep) (rest : List Role) (side : Side) (addr : Fin 16) (reply : Option ReadAnswer),
    let role : Role := match side with
      | .left => .tagL
      | .right => .tagR
    s.power = .running → s.link.sweep = some sw → sw.toRead = role :: rest →
    (s.link.roles.get role).bound = some addr →
    ∃ t, exec (.readValue role reply) s = .next t ∧
      (∀ a ∈ reply.filter (fun a => a.node.received addr), a.node.type = .tag → a.node.status ≠ .fault →
        a.held = true → (t.link.roles.get role).state = .ok →
        (a.tag ≠ 0 → t.link.sweep.map (fun w => w.tags) = some (sw.tags ++ [⟨side, a.tag.toNat⟩]) ∧
          t.link.zeroTags = s.link.zeroTags) ∧
        (a.tag = 0 → t.link.sweep.map (fun w => w.tags) = some sw.tags ∧
          t.link.zeroTags = min (s.link.zeroTags + 1) 65535)) ∧
      ((∀ a ∈ reply.filter (fun a => a.node.received addr),
          a.node.type ≠ .tag ∨ a.node.status = .fault ∨ a.held = false ∨ (t.link.roles.get role).state ≠ .ok) →
        t.link.sweep.map (fun w => w.tags) = some sw.tags ∧ t.link.zeroTags = s.link.zeroTags)

/-- The sweep's probe moves the presence entry of the address in the probe pointer by R3 and advances the pointer, 15
to 0 (R4), leaving every role as it was. With a slot ARMED the sweep goes on to serve one, the other than the last when
both are; with none it ends, and the tracker has taken its record (R11, R12, R15). That the slot is chosen when the
probe ends is the model's choice (notes/assumptions/27.md). -/
def Obligations.ProbeUpdatesPresenceAndServesSlot : Prop :=
  ∀ (s : State) (sw : Sweep) (reply : Option NodeAnswer),
    s.power = .running → s.link.sweep = some sw → sw.toRead = [] → sw.slot = none →
    let addr := s.link.probePtr
    let e := s.link.presence[addr]
    let heard := reply.filter fun a => a.received addr
    let other : Fin 2 := 1 - s.link.lastServed
    ∃ t, exec (.probe reply) s = .next t ∧
      t.link.probePtr.val = (addr.val + 1) % 16 ∧ t.link.roles = s.link.roles ∧ t.link.slots = s.link.slots ∧
      t.link.zeroTags = s.link.zeroTags ∧ t.link.period = s.link.period ∧
      (∀ a ∈ heard, t.link.presence = s.link.presence.set addr ⟨true, some a.type, 0⟩) ∧
      (heard = none → e.missed < 2 → t.link.presence = s.link.presence.set addr { e with missed := e.missed + 1 }) ∧
      (heard = none → 2 ≤ e.missed → t.link.presence = s.link.presence.set addr ⟨false, none, 0⟩) ∧
      (s.link.slots[other].isArmed = true →
        t.link.sweep = some { sw with slot := some other } ∧ t.link.lastServed = other ∧ t = { s with link := t.link }) ∧
      (s.link.slots[other].isArmed = false → s.link.slots[s.link.lastServed].isArmed = true →
        t.link.sweep = some { sw with slot := some s.link.lastServed } ∧ t.link.lastServed = s.link.lastServed ∧
        t = { s with link := t.link }) ∧
      ((∀ i : Fin 2, s.link.slots[i].isArmed = false) →
        t.link.sweep = none ∧ t.link.lastServed = s.link.lastServed ∧
          t.tracker.prevRecord = some (sweepRecord s.link sw))

/-- The node access of a sweep makes its slot DONE with what came back, counts NODE in the Fleet port's pacer alone,
and ends the sweep, whose record the tracker has taken (R3, R11, R12, R15). -/
def Obligations.NodeAccessIsServed : Prop :=
  (∀ (s : State) (sw : Sweep) (i : Fin 2) (a : Access) (reply : Option ItemAnswer),
    s.power = .running → s.link.sweep = some sw → sw.slot = some i → s.link.slots[i] = .armed a → a.dir = .read →
    let heard := reply.filter fun b => b.node.received a.address
    ∃ t, exec (.nodeRead reply) s = .next t ∧ t.link.sweep = none ∧ t.link.roles = s.link.roles ∧
      noticed s t .fleet .node ∧ (t.port .cab).pacer.count .node = (s.port .cab).pacer.count .node ∧
      t.tracker.prevRecord = some (sweepRecord s.link sw) ∧
      (∀ b ∈ heard, t.link.slots = s.link.slots.set i (.done a (.ack b.node.status b.node.type (some b.value))) ∧
        t.link.presence = s.link.presence.set a.address ⟨true, some b.node.type, 0⟩) ∧
      (heard = none → t.link.slots = s.link.slots.set i (.done a .noack) ∧ t.link.presence = s.link.presence)) ∧
  (∀ (s : State) (sw : Sweep) (i : Fin 2) (a : Access) (reply : Option NodeAnswer),
    s.power = .running → s.link.sweep = some sw → sw.slot = some i → s.link.slots[i] = .armed a → a.dir = .write →
    let heard := reply.filter fun b => b.received a.address
    ∃ t, exec (.nodeWrite reply) s = .next t ∧ t.link.sweep = none ∧ t.link.roles = s.link.roles ∧
      noticed s t .fleet .node ∧ (t.port .cab).pacer.count .node = (s.port .cab).pacer.count .node ∧
      t.tracker.prevRecord = some (sweepRecord s.link sw) ∧
      (∀ b ∈ heard, t.link.slots = s.link.slots.set i (.done a (.ack b.status b.type none)) ∧
        t.link.presence = s.link.presence.set a.address ⟨true, some b.type, 0⟩) ∧
      (heard = none → t.link.slots = s.link.slots.set i (.done a .noack) ∧ t.link.presence = s.link.presence))

/-- NODE_ACCESS arms the lowest FREE slot and answers ACCEPTED with its number, or answers RANGE with the first field
that fails, or BUSY; NODE_RESULT answers and frees a DONE slot, and refuses any other (R14, R16). Which figures of the
NODE_RESULT answer have a presence byte, and the numbers of status, type and result in it, are the model's
(notes/assumptions/15.md, 16.md). -/
def Obligations.NodeAccessRequestsArmAndFreeSlots : Prop :=
  (∀ (s : State) (r : Request) (rest : List Request), Offers s .fleet .nodeAccess r rest →
    let address := natAt r.payload 0 1
    let item := natAt r.payload 1 1
    let dir := natAt r.payload 2 1
    let g := s.granted .fleet rest
    (16 ≤ address → exec (.nodeAccess .fleet) s = .next (g.answered .fleet r .range [1])) ∧
    (address < 16 → 64 ≤ item → exec (.nodeAccess .fleet) s = .next (g.answered .fleet r .range [2])) ∧
    (address < 16 → item < 64 → 2 ≤ dir → exec (.nodeAccess .fleet) s = .next (g.answered .fleet r .range [3])) ∧
    (∀ (ha : address < 16) (hi : item < 64), dir < 2 →
      let a : Access := ⟨⟨address, ha⟩, ⟨item, hi⟩, if dir = 0 then .read else .write,
        BitVec.ofNat 16 (natAt r.payload 3 2)⟩
      (s.link.slots[(0 : Fin 2)] = .free → exec (.nodeAccess .fleet) s =
        .next (({ g with link := { s.link with slots := s.link.slots.set 0 (.armed a) } }).answered .fleet r
          .accepted [0])) ∧
      (s.link.slots[(0 : Fin 2)] ≠ .free → s.link.slots[(1 : Fin 2)] = .free → exec (.nodeAccess .fleet) s =
        .next (({ g with link := { s.link with slots := s.link.slots.set 1 (.armed a) } }).answered .fleet r
          .accepted [1])) ∧
      (s.link.slots[(0 : Fin 2)] ≠ .free → s.link.slots[(1 : Fin 2)] ≠ .free →
        exec (.nodeAccess .fleet) s = .next (g.answered .fleet r .busy [2])))) ∧
  (∀ (s : State) (r : Request) (rest : List Request), Offers s .fleet .nodeResult r rest →
    let g := s.granted .fleet rest
    (2 ≤ natAt r.payload 0 1 → exec (.nodeResult .fleet) s = .next (g.answered .fleet r .range [1])) ∧
    (∀ i : Fin 2, natAt r.payload 0 1 = i.val →
      (s.link.slots[i] = .free → exec (.nodeResult .fleet) s = .next (g.answered .fleet r .state [0x10])) ∧
      (∀ a, s.link.slots[i] = .armed a →
        exec (.nodeResult .fleet) s = .next (g.answered .fleet r .state [0x11])) ∧
      (∀ a x, s.link.slots[i] = .done a x → exec (.nodeResult .fleet) s =
        .next (({ g with link := { s.link with slots := s.link.slots.set i .free } }).answered .fleet r .ok
          (a.bytes ++ x.bytes)))))

/-! ## Load cycle and weighing -/

/-- The record that ends a sweep, by a probe or a node access, moves the cycle state by the role gate, the dump test, the
end of a capture lift and the boom transitions, in that order (R22 to R24, R27, R33, R37, R38, R42, R44). The previous
boom, the cycle timer, the capture mode and the outcomes follow (R23, R25, R26, R31, R39, R44, R45), and the sweep's tag
events reach the arbiter in their order (R13). A record that aborts an armed capture is taken as armed or as disarmed,
a free value (notes/assumptions/8.md); where outcomes stand among tag events is one too (9.md); that IDLE keeps the
previous boom of a record without BUCKET is the model's reading (24.md). -/
def Obligations.RecordMovesCycleState : Prop :=
  ∀ (c : Instr) (s : State) (sw : Sweep), SweepEnds c s sw →
    let r := sweepRecord s.link sw
    let f := s.cal.profile
    let cy := s.tracker.cycle
    let boom := r.boom.number
    let dumps := r.bucket.number ≤ f.dumpAngle ∧ (cycling cy ∨ cy = .check)
    ∃ (t : State) (armed : Bool), exec c s = .next t ∧ (¬aborts s r → armed = s.tracker.capture.isSome) ∧
      t.tracker.prevRecord = some r ∧
      let cy' := t.tracker.cycle
      let ends := usable r ∧ ¬dumps ∧ armed = true ∧ (cy = .lift ∨ cy = .weigh) ∧ f.truckAngle ≤ boom
      let moves := usable r ∧ ¬dumps ∧ ¬ends
      -- the role gate, the dump test and the end of a capture lift
      (¬usable r → cy' = .idle ∧ hands s t sw (if cycling cy then [.lostCycle] else [])) ∧
      (usable r → dumps → cy' = .ret) ∧
      (ends → cy' = .ret ∧ t.tracker.capture = none ∧
        ∃ k ∈ s.tracker.capture, handsItems s t sw [.capture k (some s.weigh.bins)]) ∧
      -- the boom transitions
      (moves →
        (cy = .idle → cy' = (if boom < f.digAngle then .dig else .idle) ∧ hands s t sw []) ∧
        (cy = .dig → cy' = (if f.digAngle ≤ boom then .lift else .dig) ∧ hands s t sw []) ∧
        (cy = .lift → cy' = (if f.loAngle ≤ boom then .weigh else if boom < f.digAngle then .dig else .lift) ∧
          hands s t sw []) ∧
        (cy = .weigh → boom < f.loAngle → cy' = .lift ∧ hands s t sw []) ∧
        (cy = .weigh → f.loAngle ≤ boom → boom < f.hiAngle → cy' = .weigh ∧ hands s t sw []) ∧
        (cy = .weigh → f.loAngle ≤ boom → f.hiAngle ≤ boom → armed = true → cy' = .weigh ∧ hands s t sw []) ∧
        (cy = .weigh → f.loAngle ≤ boom → f.hiAngle ≤ boom → armed = false →
          cy' = if s.tracker.zeroPending = true ∧ s.tracker.held = none ∧ weighable s.weigh.acc f then .ret
            else .carry) ∧
        (cy = .carry → f.loAngle ≤ boom → cy' = .carry ∧ hands s t sw []) ∧
        (cy = .carry → boom < f.loAngle → cy' = .lift ∧ t.tracker.overload = ⟨false, false⟩ ∧
          t.tracker.held = s.tracker.held ∧ hands s t sw (if s.tracker.held.isSome then [.reweigh] else [])) ∧
        (cy = .ret → boom < f.digAngle → cy' = .dig ∧ t.tracker.held = none ∧ t.tracker.residuePending = false ∧
          hands s t sw []) ∧
        (cy = .ret → f.digAngle ≤ boom → hands s t sw [] ∧ cy' =
          if s.tracker.residuePending = true ∧ (∃ b ∈ s.tracker.prevBoom, b < f.loAngle) ∧ f.loAngle ≤ boom then .check
          else .ret) ∧
        (cy = .check → boom < f.hiAngle → cy' = (if f.loAngle ≤ boom then .check else .ret) ∧
          t.tracker.residuePending = s.tracker.residuePending ∧ hands s t sw []) ∧
        (cy = .check → f.hiAngle ≤ boom → cy' = .ret ∧ t.tracker.residuePending = false ∧
          ∀ ref, s.tracker.dumpRef = some ref → hands s t sw
            (if weighable s.weigh.acc f ∧ f.residueThreshold ≤ netMass s s.weigh.acc then
              [.residue (netMass s s.weigh.acc) ref] else []))) ∧
      -- a dump in CHECK
      (usable r → dumps → cy = .check → t.tracker.residuePending = false ∧ hands s t sw []) ∧
      -- the capture mode, and the bins of an abort
      (¬ends → t.tracker.capture = if aborts s r then none else s.tracker.capture) ∧
      (¬ends → aborts s r → t.weigh.bins = noForces) ∧
      -- the previous boom
      (¬usable r → cy ≠ .idle → t.tracker.prevBoom = none) ∧
      (usable r ∨ cy = .idle →
        t.tracker.prevBoom = if inUse r.boom then r.boom.value else s.tracker.prevBoom) ∧
      -- the cycle timer
      t.tracker.timer = if (cy = .idle ∨ cy = .ret) ∧ cy' = .dig then 0 else s.tracker.timer

/-- A dump in LIFT, WEIGH or CARRY hands one outcome: a truck dump with the held result, the cycle time and the bay
choice from CARRY at or above the truck angle with a held result, and a pile dump otherwise, which keeps the truck-dump
reference; it clears the held result, the overload-risk flags and the accumulator, and an armed capture's bins. A forced
return to IDLE hands a lost cycle when a cycle was in progress (R23, R33, R34, R36, R45). The dump number that a truck
dump carries and RETURN remembers is the model's (notes/assumptions/20.md); the place of an aborted capture's outcome
and of tag events beside the dump's is free (8.md, 9.md). -/
def Obligations.DumpHandsItsOutcome : Prop :=
  ∀ (c : Instr) (s : State) (sw : Sweep), SweepEnds c s sw →
    let r := sweepRecord s.link sw
    let f := s.cal.profile
    let cy := s.tracker.cycle
    let choice : BayChoice :=
      if f.mode = .double ∧ (r.steer.state = .ok ∨ r.steer.state = .hold) then
        if (f.deadband : Int) ≤ r.steer.number then .side .left
        else if r.steer.number ≤ -(f.deadband : Int) then .side .right else .active
      else .active
    ∃ t, exec c s = .next t ∧
      let cleared := t.tracker.held = none ∧ t.tracker.overload = ⟨false, false⟩ ∧ t.weigh.acc = noSamples ∧
        t.tracker.timer = s.tracker.timer ∧ t.tracker.dumpRef = s.tracker.dumpRef ∧
        t.tracker.zeroPending = s.tracker.zeroPending ∧ t.tracker.lastZero = s.tracker.lastZero ∧
        t.tracker.capture = (if aborts s r then none else s.tracker.capture) ∧
        t.weigh.bins = if s.tracker.capture.isSome then noForces else s.weigh.bins
      (¬usable r → cy ≠ .idle →
        cleared ∧ hands s t sw (if cycling cy then [.lostCycle] else []) ∧ t.tracker.residuePending = false ∧
          t.tracker.prevBoom = none ∧ t.tracker.dumpNo = s.tracker.dumpNo ∧ t.tracker.returnOf = none) ∧
      (usable r → r.bucket.number ≤ f.dumpAngle → cycling cy →
        cleared ∧ t.tracker.residuePending = s.tracker.residuePending ∧ t.tracker.prevBoom = r.boom.value ∧
        (∀ h, s.tracker.held = some h → cy = .carry → f.truckAngle ≤ r.boom.number →
          hands s t sw [.truckDump h s.tracker.timer choice s.tracker.dumpNo] ∧
            t.tracker.dumpNo = s.tracker.dumpNo + 1 ∧ t.tracker.returnOf = some s.tracker.dumpNo) ∧
        (s.tracker.held = none ∨ cy ≠ .carry ∨ r.boom.number < f.truckAngle →
          hands s t sw [.pileDump s.tracker.timer] ∧ t.tracker.dumpNo = s.tracker.dumpNo ∧
            t.tracker.returnOf = none))

/-- A window that ends at the upper angle with capture disarmed: a weighed or UNWEIGHED window result becomes, replaces
or leaves the held result, REWEIGHED after a second window (R30, R62 to R65); a weighed one sets the overload-risk flag
of each bay it would take past its maximum and counts OVERLOAD naming it (R32). With zero pending and no held result a
weighable one gives the zero result and its outcome, and one that is not stays pending (R42). Where the outcome stands
among tag events is free (notes/assumptions/9.md). -/
def Obligations.WindowEndsInResult : Prop :=
  ∀ (c : Instr) (s : State) (sw : Sweep), SweepEnds c s sw →
    let r := sweepRecord s.link sw
    let f := s.cal.profile
    let a := s.weigh.acc
    let m := s.materials[if (s.bay s.bays.active).state = .empty then f.defMaterial else (s.bay s.bays.active).material]
    let net := if weighable a f then netMass s a else 0
    let fresh : WindowResult := ⟨net, fillOf f.volume m.density net,
      ⟨!decide (weighable a f), decide (weighable a f ∧ (f.spreadLimit : Int) < a.max.getD 0 - a.min.getD 0), a.sat,
        a.nopitch, a.slow, false, s.cal.generation == 0, false, false⟩⟩
    let zeroes := s.tracker.zeroPending = true ∧ s.tracker.held = none
    let risk : Side → Bool := fun d =>
      decide (¬zeroes ∧ weighable a f ∧
        ((s.bay d).state = .ready ∨ (s.bay d).state = .loading ∨ (s.bay d).state = .topped) ∧
        (s.bay d).max < (s.bay d).total + net)
    s.tracker.cycle = .weigh → s.tracker.capture = none → usable r → f.dumpAngle < r.bucket.number →
    f.loAngle ≤ r.boom.number → f.hiAngle ≤ r.boom.number →
    ∃ t, exec c s = .next t ∧ t.weigh.acc = a ∧ t.weigh.zeroTrim = s.weigh.zeroTrim ∧
      (∀ d, t.tracker.overload.get d = (s.tracker.overload.get d || risk d)) ∧
      namesBays s t .overload (fun pc => pc.overloadBays) risk ∧
      (zeroes → weighable a f →
        let z : ZeroResult := ⟨meanMass a, decide (-1500 ≤ meanMass a ∧ meanMass a ≤ 1500)⟩
        t.tracker.cycle = .ret ∧ t.tracker.zeroPending = false ∧ t.tracker.lastZero = some z ∧
          handsItems s t sw [.zero z]) ∧
      (zeroes → ¬weighable a f →
        t.tracker.cycle = .carry ∧ t.tracker.held = none ∧ t.tracker.zeroPending = true ∧
          t.tracker.lastZero = s.tracker.lastZero ∧ handsItems s t sw []) ∧
      (¬zeroes →
        t.tracker.cycle = .carry ∧ handsItems s t sw [] ∧ t.tracker.zeroPending = s.tracker.zeroPending ∧
        t.tracker.lastZero = s.tracker.lastZero ∧
        (s.tracker.held = none → t.tracker.held = some fresh) ∧
        (∀ h, s.tracker.held = some h → weighable a f →
          t.tracker.held = some { fresh with flags := { fresh.flags with reweighed := true } }) ∧
        (∀ h, s.tracker.held = some h → ¬weighable a f →
          t.tracker.held = some { h with flags := { h.flags with reweighed := true } }))

/-- Means round half up and quotients down (R49, R50); the force, the effective angle, the interpolated force and span
and the sample mass follow R56 to R60. With them the record that ends a sweep feeds the window accumulator when it is a
weighing sweep, which skips, abandons or accumulates (R29, R53, R54, R61), and its bin when it is a capture sweep (R81);
every other record keeps, or where R53 and R45 say so empties, the two. A record that aborts an armed capture is taken
as armed or as disarmed, a free value (notes/assumptions/8.md). The model's readings: the bins keep their values after a capture lift (28.md); a
record that enters a window at or above the upper angle is a weighing sweep, as R28 has it against the last sentence of
R54 (37.md); and the sweep that abandons a window is not counted as skipped (38.md). -/
def Obligations.WeighingArithmeticRounds : Prop :=
  (∀ a b : Int, 0 < b → floorDiv a b * b ≤ a ∧ a < (floorDiv a b + 1) * b) ∧
  (∀ (sum : Int) (count : Nat), 0 < count → meanOf sum count = floorDiv (2 * sum + count) (2 * count)) ∧
  (∀ (sum lo hi : Int) (count : Nat), 0 < count → lo * count ≤ sum → sum ≤ hi * count →
    lo ≤ meanOf sum count ∧ meanOf sum count ≤ hi) ∧
  -- R56
  (∀ (f : Profile) (r : SweepRecord),
    let millinewtons := r.head.number * f.headArea - r.rod.number * f.rodArea
    liftForce f r * 1000 ≤ millinewtons ∧ millinewtons < (liftForce f r + 1) * 1000) ∧
  -- R57
  (∀ (f : Profile) (r : SweepRecord),
    let top := f.origin + 15 * f.step
    (trueAngle r < f.origin → effectiveAngle f r = f.origin) ∧
    (top < trueAngle r → effectiveAngle f r = top) ∧
    (f.origin ≤ trueAngle r → trueAngle r ≤ top → effectiveAngle f r = trueAngle r)) ∧
  -- R58, R59
  (∀ (curve : Vector CurveBin 16) (f : Profile) (angle : Int), 0 < f.step →
    let d := angle - f.origin
    (d = 15 * f.step → curveAt curve f angle = ((curve[15].empty : Int), (curve[15].span : Int))) ∧
    (∀ i : Fin 15, i.val * f.step ≤ d → d < (i.val + 1) * f.step →
      let n := floorDiv ((d - i.val * f.step) * 256) f.step
      let line := fun a b : Int => a + floorDiv ((b - a) * n) 256
      curveAt curve f angle =
        (line curve[i.val].empty curve[i.val + 1].empty, line curve[i.val].span curve[i.val + 1].span))) ∧
  (∀ a b r : Int, 0 ≤ r → r ≤ 255 →
    (a ≤ b → a ≤ interpolate a b r ∧ interpolate a b r ≤ b) ∧
    (b ≤ a → b ≤ interpolate a b r ∧ interpolate a b r ≤ a)) ∧
  -- R60
  (∀ (curve : Vector CurveBin 16) (f : Profile) (r : SweepRecord),
    let es := curveAt curve f (effectiveAngle f r)
    let product := (liftForce f r - es.1) * es.2
    let mass := sampleMass curve f r
    (product < -2000 * 65536 → mass = -2000) ∧ (30001 * 65536 ≤ product → mass = 30000) ∧
    (-2000 * 65536 ≤ product → product < 30001 * 65536 → mass * 65536 ≤ product ∧ product < (mass + 1) * 65536) ∧
    (sampleSat curve f r = true ↔ product < -2000 * 65536 ∨ 30001 * 65536 ≤ product ∨
      r.head.marked = true ∨ r.rod.marked = true ∨ r.boom.marked = true)) ∧
  -- the sweeps that feed the accumulator and the bins
  (∀ (c : Instr) (s : State) (sw : Sweep), SweepEnds c s sw →
    let r := sweepRecord s.link sw
    let f := s.cal.profile
    let cy := s.tracker.cycle
    let boom := r.boom.number
    let lifted := f.loAngle ≤ boom ∧ boom < f.hiAngle ∧ rateFits s r ∧ measures s r
    let captured := f.digAngle ≤ boom ∧ boom < f.truckAngle ∧ rateFits s r ∧ measures s r
    let b := floorDiv (trueAngle r - f.origin + ((f.step / 2 : Nat) : Int)) f.step
    let dumped := usable r ∧ r.bucket.number ≤ f.dumpAngle
    ∃ (t : State) (armed : Bool), exec c s = .next t ∧ (¬aborts s r → armed = s.tracker.capture.isSome) ∧
      let cy' := t.tracker.cycle
      let opened := if cy' = cy then s.weigh.acc else noSamples
      let discards := (¬usable r ∧ cy ≠ .idle) ∨ (dumped ∧ (cycling cy ∨ cy = .check)) ∨ (cy = .weigh ∧ cy' = .lift) ∨
        (cy = .check ∧ cy' = .ret ∧ boom < f.hiAngle)
      -- a weighing sweep
      (cy' = .check ∨ (cy' = .weigh ∧ armed = false) →
        t.weigh.acc = weighedSweep
          { opened with abandoned := opened.abandoned || decide (lost r.head ∨ lost r.rod ∨ lost r.boom) }
          (decide lifted) (sampleMass s.cal.active f r) (sampleSat s.cal.active f r) (decide (r.pitch.state ≠ .ok))) ∧
      -- no weighing sweep
      (cy' = .weigh → armed = true → t.weigh.acc = opened) ∧
      (cy' ≠ .weigh → cy' ≠ .check → t.weigh.acc = if discards then noSamples else s.weigh.acc) ∧
      -- the capture bins
      (s.tracker.capture = none → t.weigh.bins = s.weigh.bins) ∧
      (s.tracker.capture ≠ none → ¬aborts s r →
        (cy' = .lift ∨ cy' = .weigh → ∀ i : Fin 16,
          t.weigh.bins[i] = if captured ∧ b = i.val ∧ s.weigh.bins[i].count < 255 then
            ⟨s.weigh.bins[i].sum + liftForce f r, s.weigh.bins[i].count + 1⟩ else s.weigh.bins[i]) ∧
        (cy' ≠ .lift → cy' ≠ .weigh → t.weigh.bins =
          if (cy = .lift ∧ cy' = .dig) ∨ (¬usable r ∧ cy ≠ .idle) ∨ (dumped ∧ cycling cy) then noForces
          else s.weigh.bins)))

/-! ## Outcomes and tag events -/

/-- A truck dump goes to the bay its choice names, the active bay for ACTIVE; an EMPTY one opens an anonymous load
with the profile's defaults first. The bucket is appended while the list holds fewer than 12 entries and merged into
pass 12 after that; total and state are computed anew, the counters rise, PASS names the bay, and the reference comes
back, setting residue check pending in the RETURN that followed this dump (R35, R97, R108 to R111). That RETURN is found by
the dump's number, which is the model's (notes/assumptions/20.md). -/
def Obligations.TruckDumpCommitsPass : Prop :=
  ∀ (s : State) (w : WindowResult) (time : Nat) (choice : BayChoice) (dump : Nat) (rest : List Item),
    OffersItem s (.truckDump w time choice dump) rest →
    let d : Side := match choice with
      | .side x => x
      | .active => s.bays.active
    let f := s.cal.profile
    let b := s.bay d
    let c := s.shift.counters
    ∃ t, exec .truckDump s = .next t ∧
      let b' := t.bay d
      let pass : Pass := ⟨(if b.state = .empty then 0 else b.passes.length) + 1, w.net,
        fillOf f.volume s.materials[b'.material].density w.net, w.flags, time, s.clock, none⟩
      t = { s with bays := t.bays, shift := t.shift, tracker := t.tracker, ports := t.ports, arb := t.arb } ∧
      t.bay d.other = s.bay d.other ∧ t.bays.active = s.bays.active ∧ t.bays.crossReads = s.bays.crossReads ∧
      t.bays.residueReport = s.bays.residueReport ∧ t.arb.items = rest ∧
      t.arb.lastServed = s.arb.lastServed ∧ samePorts s t ∧ noticedBoth s t .pass ∧ bayNotices s t ∧
      (∀ p, (t.port p).pacer.passBays.get d = true) ∧
      (b.state = .empty →
        b'.load = s.bays.nextLoad ∧ t.bays.nextLoad = nextLoadAfter s.bays.nextLoad ∧ b'.tag = none ∧ b'.ref = none ∧
        b'.material = f.defMaterial ∧ b'.target = f.defTarget ∧ b'.max = f.defMax ∧ b'.opened = s.clock ∧
        b'.passes = [pass]) ∧
      (b.state ≠ .empty →
        t.bays.nextLoad = s.bays.nextLoad ∧
        b' = { b with state := b'.state, passes := b'.passes, total := b'.total }) ∧
      (b.state ≠ .empty → b.passes.length < 12 → b'.passes = b.passes ++ [pass]) ∧
      (∀ p12, b.state ≠ .empty → b.passes.length = 12 → b.passes.getLast? = some p12 →
        let net := min (p12.net + w.net) 30000
        b'.passes = b.passes.dropLast ++ [{ p12 with
          net := net
          fill := fillOf f.volume s.materials[b.material].density net
          flags := { p12.flags.union w.flags with merged := true }
          cycleTime := min (p12.cycleTime + time) max16
          commitTime := s.clock }]) ∧
      b'.total = sumNets b'.passes ∧ b'.state = bayStateFor b'.load b'.passes b'.total b'.target b'.max ∧
      t.shift = { s.shift with counters := { c with
        cycles := min (c.cycles + 1) max32
        truckPasses := min (c.truckPasses + 1) max32
        cycleTimeSum := min (c.cycleTimeSum + time) max32
        unweighed := if w.flags.unweighed then min (c.unweighed + 1) max16 else c.unweighed } } ∧
      t.tracker = { s.tracker with
        dumpRef := some ⟨d, b'.load, min pass.index 12⟩
        residuePending := s.tracker.residuePending || (s.tracker.cycle == .ret && s.tracker.returnOf == some dump) }

/-- The grants of a pile dump, a reweigh and a lost cycle move their counters, saturating, and nothing else but the
fresh flag; a pile dump raises PILE (R23, R31, R36, R153, R154, R177). -/
def Obligations.OutcomesMoveTheirCounters : Prop :=
  (∀ (s : State) (time : Nat) (rest : List Item), OffersItem s (.pileDump time) rest →
    let c := s.shift.counters
    ∃ t, exec .pileDump s = .next t ∧
      t = { s with shift := t.shift, ports := t.ports, arb := t.arb } ∧ samePorts s t ∧ noticedBoth s t .pile ∧
      t.shift = { s.shift with counters := { c with
        cycles := min (c.cycles + 1) max32
        pileDumps := min (c.pileDumps + 1) max32
        cycleTimeSum := min (c.cycleTimeSum + time) max32 } } ∧
      t.arb = { s.arb with items := rest, fresh := s.arb.fresh && t.shift.counters == c }) ∧
  (∀ (s : State) (rest : List Item), OffersItem s .reweigh rest →
    let c := s.shift.counters
    let c' := { c with reweighs := min (c.reweighs + 1) max16 }
    exec .reweigh s = .next { s with
      shift := { s.shift with counters := c' }, arb := { s.arb with items := rest, fresh := s.arb.fresh && c' == c } }) ∧
  (∀ (s : State) (rest : List Item), OffersItem s .lostCycle rest →
    let c := s.shift.counters
    let c' := { c with lostCycles := min (c.lostCycles + 1) max16 }
    exec .lostCycle s = .next { s with
      shift := { s.shift with counters := c' }, arb := { s.arb with items := rest, fresh := s.arb.fresh && c' == c } })

/-- A residue outcome whose load is still in the named bay takes at most the named pass's net off it, marks the pass,
forms its fill, the total and the state anew, and counts it; with the load gone it is declined. RESIDUE is raised and
the report replaced in both cases (R112, R113). -/
def Obligations.ResidueIsAppliedOrDeclined : Prop :=
  ∀ (s : State) (x : Nat) (ref : DumpRef) (rest : List Item), OffersItem s (.residue x ref) rest →
    let d := ref.side
    let b := s.bay d
    let c := s.shift.counters
    ∃ t, exec .residue s = .next t ∧
      t = { s with bays := t.bays, shift := t.shift, ports := t.ports, arb := t.arb } ∧ samePorts s t ∧
      noticedBoth s t .residue ∧ bayNotices s t ∧ t.arb.items = rest ∧ t.bay d.other = s.bay d.other ∧
      t.bays.active = s.bays.active ∧ t.bays.nextLoad = s.bays.nextLoad ∧ t.bays.crossReads = s.bays.crossReads ∧
      (b.load ≠ ref.load →
        t.bays = { s.bays with residueReport := some ⟨x, ref, 0, false⟩ } ∧ t.shift = s.shift) ∧
      (∀ (old : Pass) (front back : List Pass), b.load = ref.load → b.passes = front ++ old :: back →
        front.length + 1 = ref.index →
        let a := min x old.net
        let new : Pass := { old with
          net := old.net - a
          fill := fillOf s.cal.profile.volume s.materials[b.material].density (old.net - a)
          flags := { old.flags with residue := true }
          residue := some (min (old.residue.getD 0 + a) 30000) }
        let b' := t.bay d
        b'.passes = front ++ new :: back ∧ b'.total = sumNets b'.passes ∧
        b'.state = bayStateFor b.load b'.passes b'.total b.target b.max ∧
        b' = { b with passes := b'.passes, total := b'.total, state := b'.state } ∧
        t.bays.residueReport = some ⟨x, ref, a, true⟩ ∧
        t.shift = { s.shift with counters := { c with residues := min (c.residues + 1) max16 } })

/-- A zero outcome sets the zero trim to an accepted mean and leaves it after one out of range; ZERO is raised in both
cases, and nothing else changes (R43). -/
def Obligations.ZeroOutcomeSetsTrim : Prop :=
  ∀ (s : State) (z : ZeroResult) (rest : List Item), OffersItem s (.zero z) rest →
    ∃ t, exec .zero s = .next t ∧
      t = { s with weigh := t.weigh, ports := t.ports, arb := { s.arb with items := rest } } ∧ samePorts s t ∧
      noticedBoth s t .zero ∧
      t.weigh = { s.weigh with zeroTrim := if z.accepted then z.mean else s.weigh.zeroTrim }

/-- A completed capture outcome stages, bin by bin, an EMPTY capture's mean force or a LOAD capture's span over the
reference empty force, fails bins of fewer than two forces or without a rise, and replaces the report; an aborted one
replaces the report alone. CAPTURE is raised, and nothing else changes (R82 to R84). -/
def Obligations.CaptureOutcomeStagesBins : Prop :=
  ∀ (s : State) (kind : CaptureKind) (bins : Option (Vector CaptureBin 16)) (rest : List Item),
    OffersItem s (.capture kind bins) rest →
    ∃ t, exec .capture s = .next t ∧
      t = { s with cal := t.cal, ports := t.ports, arb := { s.arb with items := rest } } ∧ samePorts s t ∧
      noticedBoth s t .capture ∧
      t.cal = { s.cal with staging := t.cal.staging, report := t.cal.report } ∧
      (bins = none → t.cal.staging = s.cal.staging ∧ t.cal.report = some ⟨kind, none⟩) ∧
      (∀ bs, bins = some bs → ∃ rs : Vector BinReport 16, t.cal.report = some ⟨kind, some rs⟩ ∧
        ∀ i : Fin 16,
          let n := bs[i].count
          let force := floorDiv (2 * bs[i].sum + n) (2 * n)
          let old := s.cal.staging[i]
          let rise := force - (if old.eValid then old.empty else s.cal.active[i].empty)
          (n < 2 → t.cal.staging[i] = old ∧ rs[i] = ⟨false, n, none, none⟩) ∧
          (2 ≤ n → kind = .empty →
            t.cal.staging[i] = { old with empty := force, eValid := true } ∧
              rs[i] = ⟨true, n, some force, none⟩) ∧
          (∀ mass, 2 ≤ n → kind = .load mass → 0 < rise →
            t.cal.staging[i] = { old with
              span := (clamp 1 65535 (floorDiv ((mass : Int) * 65536) rise)).toNat, sValid := true } ∧
              rs[i] = ⟨true, n, some force, some rise⟩) ∧
          (∀ mass, 2 ≤ n → kind = .load mass → rise ≤ 0 →
            t.cal.staging[i] = old ∧ rs[i] = ⟨false, n, some force, some rise⟩))

/-- A tag event whose tag the other, non-EMPTY bay holds is a cross-read: it is counted and changes no bay. Any other
acts on the bay of its side as an arriving truck (R103 to R106). -/
def Obligations.TagEventIsCrossReadOrArrival : Prop :=
  ∀ (s : State) (e : TagEvent) (rest : List Item), OffersItem s (.tag e) rest →
    let o := s.bay e.side.other
    (o.state ≠ .empty ∧ o.tag = some e.tag → exec .tagEvent s = .next { s with
      bays := { s.bays with crossReads := min (s.bays.crossReads + 1) 65535 }, arb := { s.arb with items := rest } }) ∧
    (¬(o.state ≠ .empty ∧ o.tag = some e.tag) →
      ∃ t, exec .tagEvent s = .next t ∧ ArrivalEffect s t e.side e.tag ∧ t.arb.items = rest ∧
        t.arb.lastServed = s.arb.lastServed ∧ samePorts s t)

/-! ## Ports -/

/-- A complete frame whose check word disagrees, whose kind is no request kind, or that finds four requests queued is
refused FRAME, UNKNOWN or BUSY and counted, and answered while the answer buffer has a place; any other joins the
newest end of its queue. The assembler hunts again, and nothing else changes (R170, R173), but that on the Cab port the
bytes of the frame not yet gathered clock as many bytes out (R171), which the model lets go before the frame is checked
(notes/assumptions/40.md). -/
def Obligations.FrameArrivalIsChecked : Prop :=
  ∀ (s : State) (p : Port) (f : Frame) (g : Nat), s.power = .running → (p = .cab → s.pins.csLow = true) →
    (s.port p).assembler = .assembling g → f.payload.length ≤ 480 → g ≤ f.payload.length + 6 →
    ∃ x, receives p (f.payload.length + 6 - g) (s.port p) x ∧
    let b := { x with assembler := .hunting }
    let put := fun b' : PortBlock => { s with ports := s.ports.modify p fun _ => b' }
    let refused := fun (a : Answer) => { b with
      answers := if b.answers.length < 4 then b.answers ++ [a] else b.answers
      discarded := min (b.discarded + 1) 65535 }
    (f.checkAgrees = false → exec (.frameArrival p f) s = .next (put (refused ⟨f.tag, ⟨.frame, [0]⟩⟩))) ∧
    (f.checkAgrees = true → reqKindOf f.kind = none →
      exec (.frameArrival p f) s = .next (put (refused ⟨f.tag, ⟨.unknown, [f.kind]⟩⟩))) ∧
    (∀ k, f.checkAgrees = true → reqKindOf f.kind = some k → 4 ≤ b.queue.length →
      exec (.frameArrival p f) s = .next (put (refused ⟨f.tag, ⟨.busy, [1]⟩⟩))) ∧
    (∀ k, f.checkAgrees = true → reqKindOf f.kind = some k → b.queue.length < 4 →
      exec (.frameArrival p f) s = .next (put { b with queue := b.queue ++ [⟨f.tag, k, f.payload⟩] }))

/-- A sync byte begins a frame; a bad length, a broken Fleet byte, a Fleet gap or the rise of CAB_CS_N discards the
partial frame of an assembling receiver and counts it; CAB_CS_N opens and ends the period. A port sends the next bytes
of its answers, and one whose last check byte goes leaves the buffer; on the Cab port every byte in is a byte out, the
filler 0x00 when no answer is left, CAB_MISO is driven within a period alone, and an answer part-way out when the period
ends is resumed in the next (R170 to R174, R186). That the Cab port moves bytes only within a chip-select period is read
from R171 (notes/assumptions/34.md); that ANSWER_SENT carries a count of bytes, and `out`, are the model's (40.md). -/
def Obligations.ReceiversAndSendersMove : Prop :=
  let put := fun (s : State) (p : Port) (b : PortBlock) => { s with ports := s.ports.modify p fun _ => b }
  let broken := fun b : PortBlock => { b with assembler := .hunting, discarded := min (b.discarded + 1) 65535 }
  let unsent := fun b : PortBlock => (b.answers.flatMap Answer.bytes).drop b.sent
  (∀ (s : State) (p : Port), s.power = .running → (p = .cab → s.pins.csLow = true) →
    ((s.port p).assembler = .hunting → ∃ x, receives p 1 (s.port p) x ∧
      exec (.syncByteReceived p) s = .next (put s p { x with assembler := .assembling 0 })) ∧
    (∀ g n, (s.port p).assembler = .assembling g → g ≤ 2 → (DiscardCause.length n).wf p = true →
      ∃ x, receives p (2 - g) (s.port p) x ∧ exec (.frameDiscard p (.length n)) s = .next (put s p (broken x))) ∧
    (∀ g f, (s.port p).assembler = .assembling g → g ≤ 2 → 480 < f.payload.length →
      ∃ x, receives p (2 - g) (s.port p) x ∧ exec (.frameArrival p f) s = .next (put s p (broken x)))) ∧
  -- the bytes a port sends
  (∀ (s : State) (n : Nat), s.power = .running → s.pins.csLow = true →
    ((s.port .cab).assembler = .hunting → ∃ x, sends .cab n (s.port .cab) x ∧
      exec (.answerSent ⟨.cab, n⟩) s = .next (put s .cab x)) ∧
    (∀ g, (s.port .cab).assembler = .assembling g → g + n ≤ 486 → ∃ x, sends .cab n (s.port .cab) x ∧
      exec (.answerSent ⟨.cab, n⟩) s = .next (put s .cab { x with assembler := .assembling (g + n) }))) ∧
  (∀ (s : State) (n : Nat), s.power = .running → n ≤ (unsent (s.port .fleet)).length →
    ∃ x, sends .fleet n (s.port .fleet) x ∧ exec (.answerSent ⟨.fleet, n⟩) s = .next (put s .fleet x)) ∧
  (∀ (s : State) (p : Port) (a : Answer) (rest : List Answer), s.power = .running → (p = .cab → s.pins.csLow = true) →
    (p = .cab → (s.port .cab).assembler = .hunting) → (s.port p).answers = a :: rest →
    (s.port p).sent < a.bytes.length → exec (.answerSent ⟨p, a.bytes.length - (s.port p).sent⟩) s =
      .next (put s p { s.port p with answers := rest, sent := 0, out := a.bytes.drop (s.port p).sent })) ∧
  (∀ s : State, s.cabMiso = if s.power = .running ∧ s.pins.csLow = true then
    some ((unsent (s.port .cab)).headD 0x00) else none) ∧
  -- partial frames and periods that end
  (∀ (s : State) (g : Nat), s.power = .running → (s.port .fleet).assembler = .assembling g →
    exec (.frameDiscard .fleet .brokenByte) s = .next (put s .fleet (broken (s.port .fleet))) ∧
    exec .frameGapTimeout s = .next (put s .fleet (broken (s.port .fleet)))) ∧
  (∀ s : State, exec .cabCsNFall s = .next { s with pins := { s.pins with csLow := true } }) ∧
  (∀ s : State, s.power = .running → s.pins.csLow = true →
    (∀ g, (s.port .cab).assembler = .assembling g → exec .cabCsNRise s =
      .next { put s .cab (broken (s.port .cab)) with pins := { s.pins with csLow := false } }) ∧
    ((s.port .cab).assembler = .hunting →
      exec .cabCsNRise s = .next { s with pins := { s.pins with csLow := false } }))

/-- The pace timer's expiry by R185: with the line asserted the timer stops and the line stays; with it deasserted and
an enabled kind pending the line asserts and the timer starts again for the interval, unless that is 0; otherwise the
timer stops. The timer is held as the interval it was started for (notes/assumptions/26.md). -/
def Obligations.PaceTimerExpiryDrivesLine : Prop :=
  ∀ (s : State) (p : Port) (n : Nat), s.power = .running → (s.port p).pacer.timer = some n →
    let pc := (s.port p).pacer
    let put := fun pc' : Pacer => { s with ports := s.ports.modify p fun b => { b with pacer := pc' } }
    let pending := ∃ k ∈ NoticeKind.all, pc.enables.getLsbD k.num = true ∧ 0 < pc.count k
    (pc.line = true → exec (.paceTimerExpiry p) s = .next (put { pc with timer := none })) ∧
    (pc.line = false → pending → exec (.paceTimerExpiry p) s =
      .next (put { pc with line := true, timer := if pc.interval = 0 then none else some pc.interval })) ∧
    (pc.line = false → ¬pending → exec (.paceTimerExpiry p) s = .next (put { pc with timer := none }))

/-! ## Requests -/

/-- A request whose class its port or the strap does not allow answers DENIED, and one of a wrong length RANGE with
detail 0; neither changes anything further (R176, R178, R194). The level of CALEN is the command's operand
(notes/assumptions/4.md). -/
def Obligations.ClassAndLengthAreCheckedFirst : Prop :=
  let plain : List (Port → Instr) := [.viewLive, .viewBay, .viewTruck, .viewMaterial, .viewCounters, .nextRecord,
    .viewNodes, .viewCurve, .viewProfile, .viewPort, .collectNotices, .setNotices, .takeSnapshot, .selectBay,
    .assignTruck, .closeLoad, .setLoadTarget, .zeroBucket, .cancelZero, .endShift, .restoreSnapshot, .writeTruck,
    .dropTruck, .writeMaterial, .setTime, .nodeAccess, .nodeResult]
  let plainKinds : List ReqKind := [.viewLive, .viewBay, .viewTruck, .viewMaterial, .viewCounters, .nextRecord,
    .viewNodes, .viewCurve, .viewProfile, .viewPort, .collectNotices, .setNotices, .takeSnapshot, .selectBay,
    .assignTruck, .closeLoad, .setLoadTarget, .zeroBucket, .cancelZero, .endShift, .restoreSnapshot, .writeTruck,
    .dropTruck, .writeMaterial, .setTime, .nodeAccess, .nodeResult]
  let strapped : List (Port → Bool → Instr) := [.viewPart, .stagePiece, .stageFill, .startCapture, .abortCapture,
    .installCurve, .setProfile]
  let strappedKinds : List ReqKind := [.viewPart, .stagePiece, .stageFill, .startCapture, .abortCapture,
    .installCurve, .setProfile]
  (∀ x ∈ plain.zip plainKinds, ∀ (s : State) (p : Port) (r : Request) (rest : List Request),
    OffersRequest s p r rest → r.kind = x.2 →
    (x.2.class = .fleet → p = .cab → exec (x.1 p) s = .next ((s.granted p rest).answered p r .denied [1])) ∧
    (¬(x.2.class = .fleet ∧ p = .cab) → lengthFits x.2 r.payload.length = false →
      exec (x.1 p) s = .next ((s.granted p rest).answered p r .range [0]))) ∧
  (∀ x ∈ strapped.zip strappedKinds, ∀ (s : State) (p : Port) (calen : Bool) (r : Request) (rest : List Request),
    OffersRequest s p r rest → r.kind = x.2 →
    let g := (s.granted p rest).strapped calen
    (x.2.class = .calibrate → calen = false → exec (x.1 p calen) s = .next (g.answered p r .denied [2])) ∧
    (¬(x.2.class = .calibrate ∧ calen = false) → lengthFits x.2 r.payload.length = false →
      exec (x.1 p calen) s = .next (g.answered p r .range [0])))

/-- The requests that answer a picture change nothing but their queue, the last-served port and their answer buffer,
and answer OK with the figures of the state as it stands, or RANGE for a field that names nothing (R47, R67, R93, R94,
R118, R138, R143, R158, R181, R187). What the layouts leave open of the figures' order and numbers is the model's
(notes/assumptions/15.md to 17.md, 22.md), and so are the place and coding of the accumulator's flags at the end of
VIEW_LIVE (36.md) and of the two bytes that VIEW_CURVE sends (39.md). -/
def Obligations.PicturesChangeNothing : Prop :=
  ∀ (s : State) (p : Port) (r : Request) (rest : List Request),
    let g := s.granted p rest
    let figure := natAt r.payload
    (Offers s p .viewLive r rest → exec (.viewLive p) s = .next (g.answered p r .ok s.liveFigures)) ∧
    (Offers s p .viewMaterial r rest → exec (.viewMaterial p) s = .next (g.answered p r .ok s.materialFigures)) ∧
    (Offers s p .viewCounters r rest → exec (.viewCounters p) s = .next (g.answered p r .ok s.counterFigures)) ∧
    (Offers s p .viewProfile r rest → exec (.viewProfile p) s = .next (g.answered p r .ok s.cal.profile.bytes)) ∧
    (Offers s p .takeSnapshot r rest → exec (.takeSnapshot p) s = .next (g.answered p r .ok s.snapshot)) ∧
    (∀ calen, Offers s p .viewPart r rest → exec (.viewPart p calen) s =
      .next ((g.strapped calen).answered p r .ok (s.strapped calen).partFigures)) ∧
    (Offers s p .viewBay r rest →
      (figure 0 1 = 0 → exec (.viewBay p) s = .next (g.answered p r .ok (s.bayFigures .left))) ∧
      (figure 0 1 = 1 → exec (.viewBay p) s = .next (g.answered p r .ok (s.bayFigures .right))) ∧
      (2 ≤ figure 0 1 → exec (.viewBay p) s = .next (g.answered p r .range [1]))) ∧
    (Offers s p .viewTruck r rest →
      (figure 0 1 = 0 → figure 1 3 ≠ 0 →
        exec (.viewTruck p) s = .next (g.answered p r .ok (s.truckByTag (figure 1 3)))) ∧
      (figure 0 1 = 0 → figure 1 3 = 0 → exec (.viewTruck p) s = .next (g.answered p r .range [2])) ∧
      (∀ (i : Fin 8) (w : Fin 4), figure 0 1 = 1 → figure 1 1 = i.val → figure 2 1 = w.val → figure 3 1 = 0 →
        exec (.viewTruck p) s = .next (g.answered p r .ok (s.truckByWay ⟨i, w⟩))) ∧
      (figure 0 1 = 1 → 8 ≤ figure 1 1 → exec (.viewTruck p) s = .next (g.answered p r .range [2])) ∧
      (figure 0 1 = 1 → figure 1 1 < 8 → 4 ≤ figure 2 1 → exec (.viewTruck p) s = .next (g.answered p r .range [3])) ∧
      (figure 0 1 = 1 → figure 1 1 < 8 → figure 2 1 < 4 → figure 3 1 ≠ 0 →
        exec (.viewTruck p) s = .next (g.answered p r .range [4])) ∧
      (2 ≤ figure 0 1 → exec (.viewTruck p) s = .next (g.answered p r .range [1]))) ∧
    (Offers s p .viewCurve r rest →
      (figure 0 1 < 4 → figure 1 1 = 0 →
        exec (.viewCurve p) s = .next (g.answered p r .ok (s.cal.activeFigures (figure 0 1)))) ∧
      (figure 0 1 < 4 → figure 1 1 = 1 →
        exec (.viewCurve p) s = .next (g.answered p r .ok (s.cal.stagingFigures (figure 0 1)))) ∧
      (figure 0 1 < 4 → 2 ≤ figure 1 1 → exec (.viewCurve p) s = .next (g.answered p r .range [2])) ∧
      (4 ≤ figure 0 1 → exec (.viewCurve p) s = .next (g.answered p r .range [1])))

/-- NEXT_RECORD answers the oldest record its port has not read, with the unread count after it and the missed count,
lowers that unread count and zeroes that missed count; with none unread it answers none. The other port's counts and
the records stay (R151). The answer's presence byte, 1 with a record and 0 for none, and the kind sent only as the
record's first byte are the model's choice (notes/assumptions/15.md). -/
def Obligations.NextRecordReadsOldestUnread : Prop :=
  ∀ (s : State) (p : Port) (r : Request) (rest : List Request), Offers s p .nextRecord r rest →
    let u := s.log.unread.get p
    let missed := be 2 (s.log.missed.get p)
    let g := { s.granted p rest with log := { s.log with
      unread := s.log.unread.modify p fun _ => u - 1, missed := s.log.missed.modify p fun _ => 0 } }
    (∀ x, 0 < u → s.log.records[s.log.records.length - u]? = some x →
      exec (.nextRecord p) s = .next (g.answered p r .ok (1 :: x.bytes ++ be 1 (u - 1) ++ missed))) ∧
    (u = 0 → exec (.nextRecord p) s = .next (g.answered p r .ok (0 :: be 1 0 ++ missed)))

/-- VIEW_PORT, VIEW_NODES and COLLECT_NOTICES answer their figures and zero the counters they report: the issuing
port's discarded frames, the zero tags, and the issuing pacer's counts and sets with its line deasserted, its timer,
enables and interval kept (R17, R180, R183, R185). What VIEW_PORT says of the queue it is granted from is the model's
choice (notes/assumptions/31.md), and so are, in the VIEW_NODES answer, the period reported, the figures with a presence
byte and the numbers of role states and node types (14.md to 16.md), and in the COLLECT_NOTICES answer the order of the
kinds and of a kind's figures (17.md). -/
def Obligations.ReportsZeroWhatTheyReport : Prop :=
  ∀ (s : State) (p : Port) (r : Request) (rest : List Request),
    let g := s.granted p rest
    (Offers s p .viewPort r rest → exec (.viewPort p) s = .next
      (({ g with ports := g.ports.modify p fun b => { b with discarded := 0 } }).answered p r .ok
        (g.portFigures p))) ∧
    (Offers s p .viewNodes r rest → exec (.viewNodes p) s = .next
      (({ g with link := { s.link with zeroTags := 0 } }).answered p r .ok s.nodeFigures)) ∧
    (Offers s p .collectNotices r rest →
      let pc := (s.port p).pacer
      exec (.collectNotices p) s = .next
        (({ g with ports := g.ports.modify p fun b => { b with pacer :=
            { pending := Vector.replicate 12 0, passBays := ⟨false, false⟩, bayBays := ⟨false, false⟩,
              overloadBays := ⟨false, false⟩, sensorRoles := Roles.all false, enables := pc.enables,
              interval := pc.interval, timer := pc.timer, line := false } } }).answered p r .ok pc.figures))

/-- SET_NOTICES takes a set of the twelve kinds and an interval clamped to 200, keeps every count and set, and moves
the line by the last row of R185; a set naming another kind answers RANGE (R184, R185, R194). That the set stands before
the interval in the payload is the model's (notes/assumptions/39.md). -/
def Obligations.SetNoticesMovesEnablesAndLine : Prop :=
  ∀ (s : State) (p : Port) (r : Request) (rest : List Request), Offers s p .setNotices r rest →
    let set := natAt r.payload 0 2
    let interval := min (natAt r.payload 2 1) 200
    let g := s.granted p rest
    let pc := { (s.port p).pacer with enables := BitVec.ofNat 12 set, interval := interval }
    let pending := ∃ k ∈ NoticeKind.all, set.testBit k.num = true ∧ 0 < pc.count k
    let done := fun pc' : Pacer =>
      ({ g with ports := g.ports.modify p fun b => { b with pacer := pc' } }).answered p r .ok
        (be 2 set ++ be 1 interval)
    (4096 ≤ set → exec (.setNotices p) s = .next (g.answered p r .range [1])) ∧
    (set < 4096 →
      (pc.line = true → pending → exec (.setNotices p) s = .next (done pc)) ∧
      (pc.line = true → ¬pending → exec (.setNotices p) s = .next (done { pc with line := false })) ∧
      (pc.line = false → pc.timer = none → pending → exec (.setNotices p) s =
        .next (done { pc with line := true, timer := if interval = 0 then none else some interval })) ∧
      (pc.line = false → pc.timer ≠ none ∨ ¬pending → exec (.setNotices p) s = .next (done pc)))

/-- SELECT_BAY sets the active bay, SET_TIME the clock, CANCEL_ZERO clears zero pending and ZERO_BUCKET sets it, each
with its answers and refusals, and nothing else changes (R40, R41, R102, R168). -/
def Obligations.OneFieldRequestsChangeOneField : Prop :=
  ∀ (s : State) (p : Port) (r : Request) (rest : List Request),
    let g := s.granted p rest
    (Offers s p .selectBay r rest →
      (natAt r.payload 0 1 = 0 → exec (.selectBay p) s =
        .next (({ g with bays := { s.bays with active := .left } }).answered p r .ok [])) ∧
      (natAt r.payload 0 1 = 1 → exec (.selectBay p) s =
        .next (({ g with bays := { s.bays with active := .right } }).answered p r .ok [])) ∧
      (2 ≤ natAt r.payload 0 1 → exec (.selectBay p) s = .next (g.answered p r .range [1]))) ∧
    (Offers s .fleet .setTime r rest → p = .fleet → exec (.setTime p) s =
      .next (({ g with clock := BitVec.ofNat 32 (natAt r.payload 0 4) }).answered p r .ok (be 4 s.clock.toNat))) ∧
    (Offers s p .cancelZero r rest → exec (.cancelZero p) s =
      .next (({ g with tracker := { s.tracker with zeroPending := false } }).answered p r .ok [])) ∧
    (Offers s p .zeroBucket r rest →
      (s.tracker.zeroPending = true → exec (.zeroBucket p) s = .next (g.answered p r .busy [3])) ∧
      (s.tracker.zeroPending = false → s.tracker.capture ≠ none →
        exec (.zeroBucket p) s = .next (g.answered p r .busy [4])) ∧
      (s.tracker.zeroPending = false → s.tracker.capture = none → s.tracker.cycle = .weigh →
        exec (.zeroBucket p) s = .next (g.answered p r .state [3])) ∧
      (s.tracker.zeroPending = false → s.tracker.capture = none → s.tracker.cycle = .check →
        exec (.zeroBucket p) s = .next (g.answered p r .state [6])) ∧
      (s.tracker.zeroPending = false → s.tracker.capture = none → s.tracker.cycle ≠ .weigh →
        s.tracker.cycle ≠ .check → exec (.zeroBucket p) s =
          .next (({ g with tracker := { s.tracker with zeroPending := true } }).answered p r .accepted [])))

/-- ASSIGN_TRUCK checks its bay and tag, the expected load number and the other bay, in that order; it answers OK and
changes nothing when the bay holds the tag, and otherwise acts as the arrival of that truck and answers with the load
number and whether a reference is held (R107). The empty payload for the same tag is the model's choice
(notes/assumptions/18.md). -/
def Obligations.AssignTruckActsAsArrival : Prop :=
  ∀ (s : State) (p : Port) (r : Request) (rest : List Request), Offers s p .assignTruck r rest →
    let tag := natAt r.payload 1 3
    let expected := natAt r.payload 4 4
    let g := s.granted p rest
    (2 ≤ natAt r.payload 0 1 → exec (.assignTruck p) s = .next (g.answered p r .range [1])) ∧
    (∀ d : Side, natAt r.payload 0 1 = d.code →
      let b := s.bay d
      let o := s.bay d.other
      (tag = 0 → exec (.assignTruck p) s = .next (g.answered p r .range [2])) ∧
      (tag ≠ 0 → b.load ≠ expected →
        exec (.assignTruck p) s = .next (g.answered p r .stale [BitVec.ofNat 8 (0x20 + b.state.code)])) ∧
      (tag ≠ 0 → b.load = expected → o.state ≠ .empty ∧ o.tag = some tag →
        exec (.assignTruck p) s = .next (g.answered p r .state [BitVec.ofNat 8 (0x20 + o.state.code)])) ∧
      (tag ≠ 0 → b.load = expected → ¬(o.state ≠ .empty ∧ o.tag = some tag) → b.tag = some tag →
        exec (.assignTruck p) s = .next (g.answered p r .ok [])) ∧
      (tag ≠ 0 → b.load = expected → ¬(o.state ≠ .empty ∧ o.tag = some tag) → b.tag ≠ some tag →
        ∃ t, exec (.assignTruck p) s = .next t ∧ ArrivalEffect s t d tag ∧ t.arb.lastServed = p ∧
          t.arb.items = [] ∧ (t.port p).queue = rest ∧
          (t.port p).answers = (s.port p).answers ++
            [⟨r.tag, ⟨.ok, be 4 (t.bay d).load ++ [if (t.bay d).ref.isSome then 1 else 0]⟩⟩] ∧
          (t.port p.other).queue = (s.port p.other).queue ∧ (t.port p.other).answers = (s.port p.other).answers))

/-- CLOSE_LOAD answers STALE for an EMPTY bay or another load number; it cancels a READY load without a record, and
closes a loading one: its record is logged with the port, the trip and the counters count it, the bay becomes EMPTY
with its target, max and material kept, and the other bay's lower load is renumbered (R97, R101, R114, R115, R148,
R149). The model's readings: the total without a presence byte (notes/assumptions/15.md), the verdict bytes cancelled 0
and logged 1 (16.md), and the places of bay and load number in the payload (39.md). -/
def Obligations.CloseLoadLogsOrCancels : Prop :=
  ∀ (s : State) (p : Port) (r : Request) (rest : List Request), Offers s p .closeLoad r rest →
    let expected := natAt r.payload 1 4
    let g := s.granted p rest
    (2 ≤ natAt r.payload 0 1 → exec (.closeLoad p) s = .next (g.answered p r .range [1])) ∧
    (∀ d : Side, natAt r.payload 0 1 = d.code →
      let b := s.bay d
      let o := s.bay d.other
      let n := renumbered o.load b.load s.bays.nextLoad
      let emptied : Bay := ⟨.empty, 0, none, none, b.material, b.target, b.max, 0, [], 0⟩
      (b.state = .empty ∨ b.load ≠ expected →
        exec (.closeLoad p) s = .next (g.answered p r .stale [BitVec.ofNat 8 (0x20 + b.state.code)])) ∧
      (b.state = .ready → b.load = expected → ∃ t, exec (.closeLoad p) s = .next t ∧
        t = { s with bays := { s.bays with bay := t.bays.bay }, ports := t.ports, arb := t.arb } ∧
        t.bay d = emptied ∧ t.bay d.other = o ∧ bayNotices s t ∧ t.arb.lastServed = p ∧ t.arb.items = [] ∧
        (t.port p).queue = rest ∧ (t.port p).answers = (s.port p).answers ++ [⟨r.tag, ⟨.ok, [0]⟩⟩] ∧
        (t.port p.other).queue = (s.port p.other).queue ∧ (t.port p.other).answers = (s.port p.other).answers) ∧
      (b.state ≠ .empty → b.state ≠ .ready → b.load = expected → ∃ t, exec (.closeLoad p) s = .next t ∧
        t = { s with bays := t.bays, trucks := tripped s b, log := t.log, shift := t.shift, tracker := t.tracker,
                     ports := t.ports, arb := t.arb } ∧
        appended s t (.load (closing b d (.close p) s)) ∧ noticedBoth s t .logged ∧ bayNotices s t ∧
        t.shift = { s.shift with counters := closedCounters s.shift.counters b.total } ∧
        t.bay d = emptied ∧ t.bay d.other = { o with load := n.1 } ∧
        t.bays = { s.bays with bay := t.bays.bay, nextLoad := n.2 } ∧
        t.tracker = { s.tracker with
          dumpRef := renumberedRef s.tracker.dumpRef d.other o.load b.load s.bays.nextLoad } ∧
        t.arb.lastServed = p ∧ t.arb.items = [] ∧ (t.port p).queue = rest ∧
        (t.port p).answers = (s.port p).answers ++ [⟨r.tag, ⟨.ok, 1 :: be 3 b.total⟩⟩] ∧
        (t.port p.other).queue = (s.port p.other).queue ∧ (t.port p.other).answers = (s.port p.other).answers))

/-- SET_LOAD_TARGET checks the fields, then the load; it replaces the bay's target and max and computes its state
anew (R97, R116). The order of the failing fields (notes/assumptions/19.md) and the places of the arguments in the
payload (39.md) are the model's. -/
def Obligations.SetLoadTargetRecomputesState : Prop :=
  ∀ (s : State) (p : Port) (r : Request) (rest : List Request), Offers s p .setLoadTarget r rest →
    let expected := natAt r.payload 1 4
    let target := natAt r.payload 5 2
    let max := natAt r.payload 7 2
    let targetBad := target < 1000 ∨ 60000 < target
    let maxBad := max < 1000 ∨ 60000 < max ∨ max < target
    let g := s.granted p rest
    (2 ≤ natAt r.payload 0 1 → exec (.setLoadTarget p) s = .next (g.answered p r .range [1])) ∧
    (∀ d : Side, natAt r.payload 0 1 = d.code →
      let b := s.bay d
      (targetBad → exec (.setLoadTarget p) s = .next (g.answered p r .range [2])) ∧
      (¬targetBad → maxBad → exec (.setLoadTarget p) s = .next (g.answered p r .range [3])) ∧
      (¬targetBad → ¬maxBad → b.state = .empty ∨ b.load ≠ expected →
        exec (.setLoadTarget p) s = .next (g.answered p r .stale [BitVec.ofNat 8 (0x20 + b.state.code)])) ∧
      (¬targetBad → ¬maxBad → b.state ≠ .empty → b.load = expected →
        let st := bayStateFor b.load b.passes b.total target max
        ∃ t, exec (.setLoadTarget p) s = .next t ∧
          t = { s with bays := { s.bays with bay := t.bays.bay }, ports := t.ports, arb := t.arb } ∧
          t.bay d = { b with target := target, max := max, state := st } ∧ t.bay d.other = s.bay d.other ∧
          bayNotices s t ∧ t.arb.lastServed = p ∧ t.arb.items = [] ∧
          (t.port p).queue = rest ∧
          (t.port p).answers = (s.port p).answers ++ [⟨r.tag, ⟨.ok, [BitVec.ofNat 8 st.code]⟩⟩] ∧
          (t.port p.other).queue = (s.port p.other).queue ∧
          (t.port p.other).answers = (s.port p.other).answers))

/-- END_SHIFT naming the shift appends its SHIFT record, advances the number (65,535 to 1), zeroes the ten counters and
begins the minimum and the start time anew, the bays untouched; naming another it answers STALE with the current
number. No other command appends a SHIFT record (R147, R148, R149, R156). -/
def Obligations.EndShiftLogsAndBeginsAnew : Prop :=
  (∀ (s : State) (p : Port) (r : Request) (rest : List Request), Offers s p .endShift r rest →
    let g := s.granted p rest
    let n := s.shift.number
    let next := if n = 65535 then 1 else n + 1
    (natAt r.payload 0 2 ≠ n → exec (.endShift p) s = .next (g.answered p r .stale (0x80 :: be 2 n))) ∧
    (natAt r.payload 0 2 = n → ∃ t, exec (.endShift p) s = .next t ∧
      t = { s with log := t.log, shift := t.shift, ports := t.ports, arb := t.arb } ∧
      appended s t (.shift ⟨n, s.shift.start, s.clock, p, s.shift.counters, s.shift.minVsys⟩) ∧
      t.shift = ⟨next, s.clock, s.supply.lastVsys, ⟨0, 0, 0, 0, 0, 0, 0, 0, 0, 0⟩⟩ ∧
      noticedBoth s t .shift ∧ t.arb.lastServed = p ∧ t.arb.items = [] ∧ (t.port p).queue = rest ∧
      (t.port p).answers = (s.port p).answers ++ [⟨r.tag, ⟨.ok, be 2 next⟩⟩] ∧
      (t.port p.other).queue = (s.port p.other).queue ∧ (t.port p.other).answers = (s.port p.other).answers)) ∧
  (∀ (c : Instr) (s t : State) (x : ShiftRecord), (∀ p, c ≠ .endShift p) → exec c s = .next t →
    .shift x ∈ t.log.records → .shift x ∈ s.log.records)

/-- RESTORE_SNAPSHOT answers STATE when the part is not fresh, INVALID with the first check that fails, and otherwise
takes the record: bays with their references looked up, active bay, shift, next load number and zero trim; the clock
when the record's is greater; the fresh flag clears and BAY names the bays that changed. Everything else stays (R188, R190, R191).
R190 gives the answer's reference figures 'for each bay'; that LEFT's stands before RIGHT's is the model's reading
(notes/assumptions/17.md). -/
def Obligations.RestoreTakesCheckedRecord : Prop :=
  ∀ (s : State) (p : Port) (r : Request) (rest : List Request), Offers s p .restoreSnapshot r rest →
    let g := s.granted p rest
    (s.arb.fresh = false → exec (.restoreSnapshot p) s = .next (g.answered p r .state [0x40])) ∧
    (∀ n, s.arb.fresh = true → checkSnapshot r.payload = .error n →
      exec (.restoreSnapshot p) s = .next (g.answered p r .invalid [BitVec.ofNat 8 n])) ∧
    (∀ x, s.arb.fresh = true → checkSnapshot r.payload = .ok x → ∃ t, exec (.restoreSnapshot p) s = .next t ∧
      t = { s with bays := t.bays, shift := t.shift, weigh := t.weigh, clock := t.clock, ports := t.ports,
                   arb := t.arb } ∧
      bayNotices s t ∧ t.arb = ⟨[], p, false⟩ ∧ t.weigh = { s.weigh with zeroTrim := x.trim } ∧
      t.clock = (if s.clock.toNat < x.clock then BitVec.ofNat 32 x.clock else s.clock) ∧
      t.shift = ⟨x.number, BitVec.ofNat 32 x.start, x.minVsys, x.counters⟩ ∧
      t.bays = { s.bays with bay := t.bays.bay, active := t.bays.active, nextLoad := x.nextLoad } ∧
      t.bays.active.code = x.active ∧
      (∀ d : Side,
        let y := if d = .left then x.left else x.right
        (t.bay d).state.code = y.state ∧ (t.bay d).load = y.load ∧ (t.bay d).tag = y.tag ∧
        (t.bay d).material.val = y.material ∧ (t.bay d).target = y.target ∧ (t.bay d).max = y.max ∧
        (t.bay d).opened = BitVec.ofNat 32 y.opened ∧ (t.bay d).total = y.total ∧
        (t.bay d).passes = y.passes.map RawPass.toPass ∧
        (t.bay d).ref = if (t.bay d).state = .empty then none else (t.bay d).tag.bind s.lookup) ∧
      (t.port p).queue = rest ∧
      (t.port p).answers = (s.port p).answers ++ [⟨r.tag, ⟨.ok, be 4 t.clock.toNat ++
        [if (t.bay .left).ref.isSome then 1 else 0] ++ [if (t.bay .right).ref.isSome then 1 else 0]⟩⟩] ∧
      (t.port p.other).queue = (s.port p.other).queue ∧ (t.port p.other).answers = (s.port p.other).answers)

/-- WRITE_TRUCK updates a listed tag's entry in place, or writes a new entry into the given or the victim way, whose
occupant's references are lost, and touches the way; DROP_TRUCK invalidates the tag's entry without touching, and its
references are lost. Fields are checked in order, and a full pinned set answers FULL (R117, R133 to R137). That a
dropped entry keeps its other fields is the model's (notes/assumptions/22.md), and so are the shape of the two answers
(15.md) and WRITE_TRUCK's verdict bytes updated 0 and new 1 (16.md). -/
def Obligations.TruckRequestsWriteAndDrop : Prop :=
  (∀ (s : State) (r : Request) (rest : List Request), Offers s .fleet .writeTruck r rest →
    let tag := natAt r.payload 0 3
    let target := natAt r.payload 3 2
    let max := natAt r.payload 5 2
    let material := natAt r.payload 7 1
    let pin := natAt r.payload 8 1
    let way := natAt r.payload 9 1
    let set := s.trucks[setOf tag]
    let failing : Option Nat :=
      if tag = 0 then some 1
      else if target < 1000 ∨ 60000 < target then some 2
      else if max < 1000 ∨ 60000 < max ∨ max < target then some 3
      else if 16 ≤ material then some 4
      else if 2 ≤ pin then some 5
      else if 4 ≤ way ∧ way ≠ 0xFF then some 6 else none
    let g := s.granted .fleet rest
    let chosen : Option (Fin 4) := if h : way < 4 then some ⟨way, h⟩ else set.victim
    (∀ n, failing = some n → exec (.writeTruck .fleet) s = .next (g.answered .fleet r .range [BitVec.ofNat 8 n])) ∧
    (∀ (w : Fin 4) (m : Fin 16), failing = none → m.val = material → set.find tag = some w →
      let e := { set.ways[w] with target := target, max := max, material := m, pinned := decide (pin = 1) }
      exec (.writeTruck .fleet) s = .next (({ g with
        trucks := s.trucks.set (setOf tag) ((set.put w e).touch w) }).answered .fleet r .ok
          (be 1 (tag % 8) ++ be 1 w.val ++ [0]))) ∧
    (failing = none → set.find tag = none → chosen = none →
      exec (.writeTruck .fleet) s = .next (g.answered .fleet r .full [BitVec.ofNat 8 (tag % 8)])) ∧
    (∀ (w : Fin 4) (m : Fin 16), failing = none → m.val = material → set.find tag = none → chosen = some w →
      let old := set.ways[w]
      let lost := fun b : Bay => if old.valid = true ∧ b.ref = some ⟨setOf tag, w⟩ then { b with ref := none } else b
      ∃ t, exec (.writeTruck .fleet) s = .next t ∧
        t = { s with bays := { s.bays with bay := ⟨lost s.bays.bay.left, lost s.bays.bay.right⟩ },
                     trucks := t.trucks, ports := t.ports, arb := t.arb } ∧
        t.trucks = s.trucks.set (setOf tag)
          ((set.put w ⟨true, decide (pin = 1), tag, target, max, m, 0, 0, none⟩).touch w) ∧
        t.arb.lastServed = .fleet ∧ t.arb.items = [] ∧ (t.port .fleet).queue = rest ∧
        (t.port .fleet).answers = (s.port .fleet).answers ++ [⟨r.tag, ⟨.ok,
          be 1 (tag % 8) ++ be 1 w.val ++ 1 :: if old.valid then 1 :: be 3 old.tag else [0]⟩⟩])) ∧
  (∀ (s : State) (r : Request) (rest : List Request), Offers s .fleet .dropTruck r rest →
    let tag := natAt r.payload 0 3
    let set := s.trucks[setOf tag]
    let g := s.granted .fleet rest
    (tag = 0 → exec (.dropTruck .fleet) s = .next (g.answered .fleet r .range [1])) ∧
    (tag ≠ 0 → set.find tag = none → exec (.dropTruck .fleet) s = .next (g.answered .fleet r .ok [0])) ∧
    (∀ w, tag ≠ 0 → set.find tag = some w →
      let lost := fun b : Bay => if b.ref = some ⟨setOf tag, w⟩ then { b with ref := none } else b
      ∃ t, exec (.dropTruck .fleet) s = .next t ∧
        t = { s with bays := { s.bays with bay := ⟨lost s.bays.bay.left, lost s.bays.bay.right⟩ },
                     trucks := t.trucks, ports := t.ports, arb := t.arb } ∧
        t.trucks = s.trucks.set (setOf tag) (set.put w { set.ways[w] with valid := false }) ∧
        t.arb.lastServed = .fleet ∧ t.arb.items = [] ∧ (t.port .fleet).queue = rest ∧
        (t.port .fleet).answers = (s.port .fleet).answers ++ [⟨r.tag, ⟨.ok,
          1 :: be 1 (tag % 8) ++ be 1 w.val⟩⟩]))

/-- Touching a way sets the replacement bits by the table of R128, and the victim of a set is its lowest invalid way,
or else the first unpinned way of the tree's choice, its pair-mate, the other pair's choice and that way's pair-mate
(R127 to R129). -/
def Obligations.ReplacementFollowsTree : Prop :=
  (∀ t : TruckSet,
    t.touch 0 = { t with root := true, pairA := true } ∧ t.touch 1 = { t with root := true, pairA := false } ∧
    t.touch 2 = { t with root := false, pairB := true } ∧ t.touch 3 = { t with root := false, pairB := false }) ∧
  (∀ (t : TruckSet) (w : Fin 4), t.ways[w].valid = false → (∀ v : Fin 4, v < w → t.ways[v].valid = true) →
    t.victim = some w) ∧
  (∀ t : TruckSet, (∀ w : Fin 4, t.ways[w].valid = true) →
    let a : Fin 4 := if t.pairA then 1 else 0
    let a' : Fin 4 := if t.pairA then 0 else 1
    let b : Fin 4 := if t.pairB then 3 else 2
    let b' : Fin 4 := if t.pairB then 2 else 3
    t.victim = (if t.root then [b, b', a, a'] else [a, a', b, b']).find? fun w => !t.ways[w].pinned)

/-- WRITE_MATERIAL checks code, density and label, then the default material's density, and writes the entry; on the
Cab port it answers DENIED (R142). -/
def Obligations.WriteMaterialKeepsDefaultDense : Prop :=
  (∀ (s : State) (r : Request) (rest : List Request), Offers s .fleet .writeMaterial r rest →
    let code := natAt r.payload 0 1
    let density := natAt r.payload 1 2
    let label := slice r.payload 3 8
    let densityBad := density ≠ 0 ∧ (density < 500 ∨ 3500 < density)
    let labelBad := ∃ x ∈ label, x.toNat < 0x20 ∨ 0x7E < x.toNat
    let starves := density = 0 ∧ code = s.cal.profile.defMaterial.val
    let g := s.granted .fleet rest
    (16 ≤ code → exec (.writeMaterial .fleet) s = .next (g.answered .fleet r .range [1])) ∧
    (code < 16 → densityBad → exec (.writeMaterial .fleet) s = .next (g.answered .fleet r .range [2])) ∧
    (code < 16 → ¬densityBad → labelBad → exec (.writeMaterial .fleet) s = .next (g.answered .fleet r .range [3])) ∧
    (code < 16 → ¬densityBad → ¬labelBad → starves →
      exec (.writeMaterial .fleet) s = .next (g.answered .fleet r .range [2])) ∧
    (∀ h : code < 16, ¬densityBad → ¬labelBad → ¬starves → exec (.writeMaterial .fleet) s =
      .next (({ g with materials := s.materials.set code ⟨density, label⟩ h }).answered .fleet r .ok []))) ∧
  (∀ (s : State) (r : Request) (rest : List Request), Offers s .cab .writeMaterial r rest →
    exec (.writeMaterial .cab) s = .next ((s.granted .cab rest).answered .cab r .denied [1]))

/-- STAGE_PIECE checks k and then its eight values in order, and stages four bins with both flags; STAGE_FILL copies
every unstaged value from the active curve and answers how many of each (R78, R79). -/
def Obligations.StagingRequestsStageBins : Prop :=
  (∀ (s : State) (p : Port) (r : Request) (rest : List Request), Offers s p .stagePiece r rest →
    let k := natAt r.payload 0 1
    let force := fun j => intAt r.payload (1 + 6 * j) 4
    let span := fun j => natAt r.payload (5 + 6 * j) 2
    let forceBad := fun j => force j < -2621400 ∨ 2621400 < force j
    let spanBad := fun j => span j = 0
    let g := (s.granted p rest).strapped true
    (4 ≤ k → exec (.stagePiece p true) s = .next (g.answered p r .range [1])) ∧
    (∀ j : Fin 4, k < 4 → (∀ i : Fin 4, i < j → ¬forceBad i ∧ ¬spanBad i) → forceBad j →
      exec (.stagePiece p true) s = .next (g.answered p r .range [BitVec.ofNat 8 (2 + 2 * j.val)])) ∧
    (∀ j : Fin 4, k < 4 → (∀ i : Fin 4, i < j → ¬forceBad i ∧ ¬spanBad i) → ¬forceBad j → spanBad j →
      exec (.stagePiece p true) s = .next (g.answered p r .range [BitVec.ofNat 8 (3 + 2 * j.val)])) ∧
    (k < 4 → (∀ i : Fin 4, ¬forceBad i ∧ ¬spanBad i) → ∃ staging : Vector StagingBin 16,
      exec (.stagePiece p true) s = .next (({ g with cal := { s.cal with staging := staging } }).answered p r .ok []) ∧
      ∀ i : Fin 16, staging[i] =
        if i.val / 4 = k then ⟨force (i.val % 4), span (i.val % 4), true, true⟩ else s.cal.staging[i])) ∧
  (∀ (s : State) (p : Port) (r : Request) (rest : List Request), Offers s p .stageFill r rest →
    let g := (s.granted p rest).strapped true
    let bins := s.cal.staging.toList
    ∃ staging : Vector StagingBin 16,
      exec (.stageFill p true) s = .next (({ g with cal := { s.cal with staging := staging } }).answered p r .ok
        (be 1 (bins.countP fun (x : StagingBin) => !x.eValid) ++ be 1 (bins.countP fun (x : StagingBin) => !x.sValid))) ∧
      ∀ i : Fin 16, staging[i] =
        ⟨if s.cal.staging[i].eValid then s.cal.staging[i].empty else s.cal.active[i].empty,
          if s.cal.staging[i].sValid then s.cal.staging[i].span else s.cal.active[i].span, true, true⟩)

/-- START_CAPTURE checks its fields, then BUSY and the tracker state, and arms the capture with empty bins, discarding
a result held in CARRY; ABORT_CAPTURE disarms an armed capture and empties its bins, and answers whether one was
armed (R80, R86). -/
def Obligations.CaptureRequestsArmAndDisarm : Prop :=
  (∀ (s : State) (p : Port) (r : Request) (rest : List Request), Offers s p .startCapture r rest →
    let kind := natAt r.payload 0 1
    let mass := natAt r.payload 1 2
    let fieldsGood := kind = 0 ∨ (kind = 1 ∧ 500 ≤ mass ∧ mass ≤ 30000)
    let t := s.tracker
    let weighing := t.cycle = .weigh ∨ t.cycle = .check
    let g := (s.granted p rest).strapped true
    (2 ≤ kind → exec (.startCapture p true) s = .next (g.answered p r .range [1])) ∧
    (kind = 1 → mass < 500 ∨ 30000 < mass → exec (.startCapture p true) s = .next (g.answered p r .range [2])) ∧
    (fieldsGood → t.zeroPending = true → exec (.startCapture p true) s = .next (g.answered p r .busy [3])) ∧
    (fieldsGood → t.zeroPending = false → t.capture ≠ none →
      exec (.startCapture p true) s = .next (g.answered p r .busy [4])) ∧
    (fieldsGood → t.zeroPending = false → t.capture = none → weighing →
      exec (.startCapture p true) s = .next (g.answered p r .state [BitVec.ofNat 8 t.cycle.code])) ∧
    (fieldsGood → t.zeroPending = false → t.capture = none → ¬weighing →
      let armed := some (if kind = 0 then CaptureKind.empty else .load mass)
      let loses := t.cycle = .carry ∧ t.held ≠ none
      exec (.startCapture p true) s = .next (({ g with
        weigh := { s.weigh with bins := Vector.replicate 16 ⟨0, 0⟩ }
        tracker := { t with
          capture := armed
          held := if loses then none else t.held
          overload := if loses then ⟨false, false⟩ else t.overload } }).answered p r .accepted []))) ∧
  (∀ (s : State) (p : Port) (r : Request) (rest : List Request), Offers s p .abortCapture r rest →
    let g := (s.granted p rest).strapped true
    (s.tracker.capture ≠ none → exec (.abortCapture p true) s = .next (({ g with
      weigh := { s.weigh with bins := Vector.replicate 16 ⟨0, 0⟩ }
      tracker := { s.tracker with capture := none } }).answered p r .ok [1])) ∧
    (s.tracker.capture = none → exec (.abortCapture p true) s = .next (g.answered p r .ok [0])))

/-- INSTALL_CURVE answers STATE with the lowest bin that lacks a flag, then BUSY while a capture is armed or a window
is open; otherwise the staging values become the active curve, the generation advances (65,535 to 1) and every staging
flag clears (R87, R88, R196). -/
def Obligations.InstallCurveCopiesStaging : Prop :=
  ∀ (s : State) (p : Port) (r : Request) (rest : List Request), Offers s p .installCurve r rest →
    let g := (s.granted p rest).strapped true
    let complete := fun i : Fin 16 => s.cal.staging[i].eValid = true ∧ s.cal.staging[i].sValid = true
    let weighing := s.tracker.cycle = .weigh ∨ s.tracker.cycle = .check
    let next := if s.cal.generation = 65535 then 1 else s.cal.generation + 1
    (∀ i, ¬complete i → (∀ j, j < i → complete j) →
      exec (.installCurve p true) s = .next (g.answered p r .state [BitVec.ofNat 8 (0x30 + i.val)])) ∧
    ((∀ i, complete i) → s.tracker.capture ≠ none →
      exec (.installCurve p true) s = .next (g.answered p r .busy [4])) ∧
    ((∀ i, complete i) → s.tracker.capture = none → weighing →
      exec (.installCurve p true) s = .next (g.answered p r .busy [5])) ∧
    ((∀ i, complete i) → s.tracker.capture = none → ¬weighing → exec (.installCurve p true) s =
      .next (({ g with cal := { s.cal with
        active := s.cal.staging.map fun (x : StagingBin) => ⟨x.empty, x.span⟩
        generation := next
        staging := s.cal.staging.map fun (x : StagingBin) => { x with eValid := false, sValid := false } } }).answered p r .ok
          (be 2 next)))

/-- SET_PROFILE answers RANGE with the first of the thirty fields of R89 that fails, then BUSY while a capture is armed
or a window is open; otherwise the profile takes the values sent, and a change of origin or step clears every staging
flag (R90 to R92). A profile whose every check passes keeps R89. -/
def Obligations.SetProfileReplacesCheckedProfile : Prop :=
  (∀ (s : State) (p : Port) (r : Request) (rest : List Request), Offers s p .setProfile r rest →
    let g := (s.granted p rest).strapped true
    let new := profileOf r.payload
    let weighing := s.tracker.cycle = .weigh ∨ s.tracker.cycle = .check
    (∀ n, firstFailing (profileChecks r.payload s.materials) = some n →
      exec (.setProfile p true) s = .next (g.answered p r .range [BitVec.ofNat 8 n])) ∧
    (firstFailing (profileChecks r.payload s.materials) = none → s.tracker.capture ≠ none →
      exec (.setProfile p true) s = .next (g.answered p r .busy [4])) ∧
    (firstFailing (profileChecks r.payload s.materials) = none → s.tracker.capture = none → weighing →
      exec (.setProfile p true) s = .next (g.answered p r .busy [5])) ∧
    (firstFailing (profileChecks r.payload s.materials) = none → s.tracker.capture = none → ¬weighing →
      exec (.setProfile p true) s = .next (({ g with cal := { s.cal with
        profile := new
        staging :=
          if new.origin = s.cal.profile.origin ∧ new.step = s.cal.profile.step then s.cal.staging
          else s.cal.staging.map fun (x : StagingBin) => { x with eValid := false, sValid := false } } }).answered p r .ok []))) ∧
  (∀ (payload : List Byte) (materials : Vector Material 16), payload.length = 45 →
    (firstFailing (profileChecks payload materials) = none ↔
      (profileOf payload).lawful ∧ natAt payload 31 1 < 16 ∧ materials[(profileOf payload).defMaterial].density ≠ 0 ∧
        natAt payload 24 1 ≤ 1 ∧ natAt payload 36 1 ≤ 3 ∧
        ∀ i < 8, natAt payload (37 + i) 1 < 16 ∨ natAt payload (37 + i) 1 = 0xFF))


/-! ## Frames, laws and the snapshot -/

/-- While the part is not reset or without power, each block changes only by the commands whose rules change it: the
profile by SET_PROFILE, the active curve by INSTALL_CURVE, the zero trim by ZERO and RESTORE_SNAPSHOT, the clock by its
tick, SET_TIME and RESTORE_SNAPSHOT, what waits at the arbiter by the ends of sweeps, an entry to LOW and the grants of
items, the last-served port by requests, the pacers by what raises a notice and by their own requests, and so on; and
nothing but a reset sets the fresh flag (R66, R74, R89, R145, R153, R161, R167, R175, R177, R182). -/
def Obligations.EachBlockHasItsWriters : Prop :=
  ∀ (c : Instr) (s t : State), c.resets = false → exec c s = .next t →
    t.power = s.power ∧ t.resetRecord = s.resetRecord ∧
    (c.writesPins = false → t.pins = s.pins) ∧
    (c.writesClock = false → t.clock = s.clock) ∧
    (c.writesLink = false → t.link = s.link) ∧
    (c.writesTracker = false → t.tracker = s.tracker) ∧
    (c.writesWindow = false → t.weigh.acc = s.weigh.acc ∧ t.weigh.bins = s.weigh.bins) ∧
    (c.writesTrim = false → t.weigh.zeroTrim = s.weigh.zeroTrim) ∧
    (c.writesCurve = false → t.cal.active = s.cal.active ∧ t.cal.generation = s.cal.generation) ∧
    (c.writesStaging = false → t.cal.staging = s.cal.staging) ∧
    (c ≠ .capture → t.cal.report = s.cal.report) ∧
    (c.writesProfile = false → t.cal.profile = s.cal.profile) ∧
    (c.writesBays = false → t.bays = s.bays) ∧
    (c.writesTrucks = false → t.trucks = s.trucks) ∧
    ((∀ p, c ≠ .writeMaterial p) → t.materials = s.materials) ∧
    (c.writesLog = false → t.log = s.log) ∧
    (c.writesShift = false → t.shift = s.shift) ∧
    ((∀ v, c ≠ .supplyMeasurement v) → t.supply = s.supply) ∧
    (c.asksConfig = false → t.openChoice = s.openChoice) ∧
    (c.writesItems = false → t.arb.items = s.arb.items) ∧
    (c.request = none → t.arb.lastServed = s.arb.lastServed) ∧
    (c.clearsFresh = false → t.arb.fresh = s.arb.fresh) ∧ (t.arb.fresh = true → s.arb.fresh = true) ∧
    (∀ p, c.actsOn p = false → t.port p = { s.port p with pacer := (t.port p).pacer }) ∧
    (∀ p, c.writesPacer p = false → (t.port p).pacer = (s.port p).pacer)

/-- Every law of Safety.lean holds after a power-on reset; of the supply figures' bounds it holds because they stand at
400 before the first measurement, which is the model's choice (notes/assumptions/6.md). -/
def Obligations.LawsHoldAfterReset : Prop :=
  let s := State.reset
  PortLaw s ∧ AttentionLaw s ∧ BayLaw s ∧ FiguresLaw s ∧ NumberLaw s ∧ TruckLaw s ∧ LogLaw s ∧ CounterLaw s ∧
    FreshLaw s ∧ CurveLaw s ∧ ZeroTrimLaw s ∧ ProfileLaw s ∧ LinkLaw s ∧ AccumulatorLaw s ∧ TrackerLaw s ∧ SupplyLaw s

/-- Every step keeps the bounds of the queues, the answer buffers, the bytes sent of the oldest answer and the bytes
gathered of a frame (R171, R173, R174) and the attention lines' laws (R182,
R185). -/
def Obligations.StepsKeepPortsAndAttention : Prop :=
  ∀ s t : State, PortLaw s → AttentionLaw s → step s = .next t → PortLaw t ∧ AttentionLaw t

/-- Every step keeps the bays' laws (R97 to R99, R104). -/
def Obligations.StepsKeepBays : Prop := ∀ s t : State, BayLaw s → step s = .next t → BayLaw t

/-- Every step keeps the targets and maxima of bays, truck entries and profile in range (R96, R125). -/
def Obligations.StepsKeepFigures : Prop := ∀ s t : State, FiguresLaw s → step s = .next t → FiguresLaw t

/-- Every step whose load numbers do not wrap keeps the load numbers distinct and the log in their order (R100,
R150). -/
def Obligations.StepsKeepLoadNumbers : Prop :=
  ∀ s t : State, BayLaw s → s.bays.nextLoad + 2 ≤ max32 → NumberLaw s → step s = .next t → NumberLaw t

/-- Every step keeps the truck table in order and the bays' references valid (R117, R126). -/
def Obligations.StepsKeepTruckTable : Prop := ∀ s t : State, TruckLaw s → step s = .next t → TruckLaw t

/-- Every step keeps the log's bounds and the counters' relations (R145, R149, R153, R154). -/
def Obligations.StepsKeepLogAndCounters : Prop :=
  ∀ s t : State, LogLaw s → CounterLaw s → step s = .next t → LogLaw t ∧ CounterLaw t

/-- Every step keeps a fresh part without recorded work (R177, R190). -/
def Obligations.StepsKeepFreshness : Prop := ∀ s t : State, FreshLaw s → step s = .next t → FreshLaw t

/-- Every step keeps the spans of both curves in range, generation 0 for the default curve alone, and the zero trim
within 1,500 kg (R66, R74, R75). -/
def Obligations.StepsKeepCurveAndTrim : Prop :=
  ∀ s t : State, CurveLaw s → ZeroTrimLaw s → step s = .next t → CurveLaw t ∧ ZeroTrimLaw t

/-- Every step keeps the profile's ranges and cross-checks and the material table's (R89, R141). -/
def Obligations.StepsKeepProfile : Prop := ∀ s t : State, ProfileLaw s → step s = .next t → ProfileLaw t

/-- Every step keeps the role records, the presence map and the sweep in order: its reads, its node access, and its
tags left before right (R3, R5, R7, R8, R11, R13). -/
def Obligations.StepsKeepLink : Prop := ∀ s t : State, LinkLaw s → step s = .next t → LinkLaw t

/-- Every step keeps the window accumulator, the cycle tracker and the supply monitor in order (R21, R35, R38, R52,
R61, R162). That a reset keeps the supply figures' bounds rests on their standing at 400 after it, the model's choice
(notes/assumptions/6.md). -/
def Obligations.StepsKeepTracker : Prop :=
  ∀ s t : State, AccumulatorLaw s → TrackerLaw s → SupplyLaw s → step s = .next t →
    AccumulatorLaw t ∧ TrackerLaw t ∧ SupplyLaw t

/-- A snapshot of a part that keeps its laws, whose cycle count has not saturated, passes every check of a restore, and
restoring it into any part gives that part the bays, their references looked up there, the active bay, the shift, the
next load number and the zero trim of the part that gave it (R187, R190, R191). -/
def Obligations.SnapshotRestoresWhatItTook : Prop :=
  ∀ s : State, BayLaw s → FiguresLaw s → NumberLaw s → CounterLaw s → ZeroTrimLaw s → SupplyLaw s →
    s.shift.counters.truckPasses + s.shift.counters.pileDumps ≤ max32 →
    ∃ r, checkSnapshot s.snapshot = .ok r ∧ ∀ t : State,
      (∀ d, (t.restore r).bay d =
        { s.bay d with ref := if (s.bay d).state = .empty then none else (s.bay d).tag.bind t.lookup }) ∧
      (t.restore r).bays.active = s.bays.active ∧ (t.restore r).shift = s.shift ∧
      (t.restore r).bays.nextLoad = s.bays.nextLoad ∧ (t.restore r).weigh.zeroTrim = s.weigh.zeroTrim ∧
      (t.restore r).clock = if t.clock < s.clock then s.clock else t.clock
end

