-- ==== Sys2Proof/Laws/State.lean ====
section
/-! SUPPORT. One lemma for each field under each update of State, true by unfolding, so that no later proof unfolds
a record update. -/

namespace Sys2Proof.Machine

/-! ### modifyBay -/

@[simp] theorem State.modifyBay_power (s : State) (d : Side) (f : Bay → Bay) :
    (s.modifyBay d f).power = s.power := rfl
@[simp] theorem State.modifyBay_pins (s : State) (d : Side) (f : Bay → Bay) :
    (s.modifyBay d f).pins = s.pins := rfl
@[simp] theorem State.modifyBay_clock (s : State) (d : Side) (f : Bay → Bay) :
    (s.modifyBay d f).clock = s.clock := rfl
@[simp] theorem State.modifyBay_resetRecord (s : State) (d : Side) (f : Bay → Bay) :
    (s.modifyBay d f).resetRecord = s.resetRecord := rfl
@[simp] theorem State.modifyBay_link (s : State) (d : Side) (f : Bay → Bay) :
    (s.modifyBay d f).link = s.link := rfl
@[simp] theorem State.modifyBay_tracker (s : State) (d : Side) (f : Bay → Bay) :
    (s.modifyBay d f).tracker = s.tracker := rfl
@[simp] theorem State.modifyBay_weigh (s : State) (d : Side) (f : Bay → Bay) :
    (s.modifyBay d f).weigh = s.weigh := rfl
@[simp] theorem State.modifyBay_cal (s : State) (d : Side) (f : Bay → Bay) :
    (s.modifyBay d f).cal = s.cal := rfl
@[simp] theorem State.modifyBay_bays (s : State) (d : Side) (f : Bay → Bay) :
    (s.modifyBay d f).bays = { s.bays with bay := s.bays.bay.modify d f } := rfl
@[simp] theorem State.modifyBay_trucks (s : State) (d : Side) (f : Bay → Bay) :
    (s.modifyBay d f).trucks = s.trucks := rfl
@[simp] theorem State.modifyBay_materials (s : State) (d : Side) (f : Bay → Bay) :
    (s.modifyBay d f).materials = s.materials := rfl
@[simp] theorem State.modifyBay_log (s : State) (d : Side) (f : Bay → Bay) :
    (s.modifyBay d f).log = s.log := rfl
@[simp] theorem State.modifyBay_shift (s : State) (d : Side) (f : Bay → Bay) :
    (s.modifyBay d f).shift = s.shift := rfl
@[simp] theorem State.modifyBay_supply (s : State) (d : Side) (f : Bay → Bay) :
    (s.modifyBay d f).supply = s.supply := rfl
@[simp] theorem State.modifyBay_arb (s : State) (d : Side) (f : Bay → Bay) :
    (s.modifyBay d f).arb = s.arb := rfl
@[simp] theorem State.modifyBay_ports (s : State) (d : Side) (f : Bay → Bay) :
    (s.modifyBay d f).ports = s.ports := rfl
@[simp] theorem State.modifyBay_openChoice (s : State) (d : Side) (f : Bay → Bay) :
    (s.modifyBay d f).openChoice = s.openChoice := rfl
@[simp] theorem State.modifyBay_pending (s : State) (d : Side) (f : Bay → Bay) :
    (s.modifyBay d f).pending = s.pending := rfl
/-! ### modifyPort -/

@[simp] theorem State.modifyPort_power (s : State) (p : Port) (f : PortBlock → PortBlock) :
    (s.modifyPort p f).power = s.power := rfl
@[simp] theorem State.modifyPort_pins (s : State) (p : Port) (f : PortBlock → PortBlock) :
    (s.modifyPort p f).pins = s.pins := rfl
@[simp] theorem State.modifyPort_clock (s : State) (p : Port) (f : PortBlock → PortBlock) :
    (s.modifyPort p f).clock = s.clock := rfl
@[simp] theorem State.modifyPort_resetRecord (s : State) (p : Port) (f : PortBlock → PortBlock) :
    (s.modifyPort p f).resetRecord = s.resetRecord := rfl
@[simp] theorem State.modifyPort_link (s : State) (p : Port) (f : PortBlock → PortBlock) :
    (s.modifyPort p f).link = s.link := rfl
@[simp] theorem State.modifyPort_tracker (s : State) (p : Port) (f : PortBlock → PortBlock) :
    (s.modifyPort p f).tracker = s.tracker := rfl
@[simp] theorem State.modifyPort_weigh (s : State) (p : Port) (f : PortBlock → PortBlock) :
    (s.modifyPort p f).weigh = s.weigh := rfl
@[simp] theorem State.modifyPort_cal (s : State) (p : Port) (f : PortBlock → PortBlock) :
    (s.modifyPort p f).cal = s.cal := rfl
@[simp] theorem State.modifyPort_bays (s : State) (p : Port) (f : PortBlock → PortBlock) :
    (s.modifyPort p f).bays = s.bays := rfl
@[simp] theorem State.modifyPort_trucks (s : State) (p : Port) (f : PortBlock → PortBlock) :
    (s.modifyPort p f).trucks = s.trucks := rfl
@[simp] theorem State.modifyPort_materials (s : State) (p : Port) (f : PortBlock → PortBlock) :
    (s.modifyPort p f).materials = s.materials := rfl
@[simp] theorem State.modifyPort_log (s : State) (p : Port) (f : PortBlock → PortBlock) :
    (s.modifyPort p f).log = s.log := rfl
@[simp] theorem State.modifyPort_shift (s : State) (p : Port) (f : PortBlock → PortBlock) :
    (s.modifyPort p f).shift = s.shift := rfl
@[simp] theorem State.modifyPort_supply (s : State) (p : Port) (f : PortBlock → PortBlock) :
    (s.modifyPort p f).supply = s.supply := rfl
@[simp] theorem State.modifyPort_arb (s : State) (p : Port) (f : PortBlock → PortBlock) :
    (s.modifyPort p f).arb = s.arb := rfl
@[simp] theorem State.modifyPort_ports (s : State) (p : Port) (f : PortBlock → PortBlock) :
    (s.modifyPort p f).ports = s.ports.modify p f := rfl
@[simp] theorem State.modifyPort_openChoice (s : State) (p : Port) (f : PortBlock → PortBlock) :
    (s.modifyPort p f).openChoice = s.openChoice := rfl
@[simp] theorem State.modifyPort_pending (s : State) (p : Port) (f : PortBlock → PortBlock) :
    (s.modifyPort p f).pending = s.pending := rfl
/-! ### modifyTracker -/

@[simp] theorem State.modifyTracker_power (s : State) (f : Tracker → Tracker) :
    (s.modifyTracker f).power = s.power := rfl
@[simp] theorem State.modifyTracker_pins (s : State) (f : Tracker → Tracker) :
    (s.modifyTracker f).pins = s.pins := rfl
@[simp] theorem State.modifyTracker_clock (s : State) (f : Tracker → Tracker) :
    (s.modifyTracker f).clock = s.clock := rfl
@[simp] theorem State.modifyTracker_resetRecord (s : State) (f : Tracker → Tracker) :
    (s.modifyTracker f).resetRecord = s.resetRecord := rfl
@[simp] theorem State.modifyTracker_link (s : State) (f : Tracker → Tracker) :
    (s.modifyTracker f).link = s.link := rfl
@[simp] theorem State.modifyTracker_tracker (s : State) (f : Tracker → Tracker) :
    (s.modifyTracker f).tracker = f s.tracker := rfl
@[simp] theorem State.modifyTracker_weigh (s : State) (f : Tracker → Tracker) :
    (s.modifyTracker f).weigh = s.weigh := rfl
@[simp] theorem State.modifyTracker_cal (s : State) (f : Tracker → Tracker) :
    (s.modifyTracker f).cal = s.cal := rfl
@[simp] theorem State.modifyTracker_bays (s : State) (f : Tracker → Tracker) :
    (s.modifyTracker f).bays = s.bays := rfl
@[simp] theorem State.modifyTracker_trucks (s : State) (f : Tracker → Tracker) :
    (s.modifyTracker f).trucks = s.trucks := rfl
@[simp] theorem State.modifyTracker_materials (s : State) (f : Tracker → Tracker) :
    (s.modifyTracker f).materials = s.materials := rfl
@[simp] theorem State.modifyTracker_log (s : State) (f : Tracker → Tracker) :
    (s.modifyTracker f).log = s.log := rfl
@[simp] theorem State.modifyTracker_shift (s : State) (f : Tracker → Tracker) :
    (s.modifyTracker f).shift = s.shift := rfl
@[simp] theorem State.modifyTracker_supply (s : State) (f : Tracker → Tracker) :
    (s.modifyTracker f).supply = s.supply := rfl
@[simp] theorem State.modifyTracker_arb (s : State) (f : Tracker → Tracker) :
    (s.modifyTracker f).arb = s.arb := rfl
@[simp] theorem State.modifyTracker_ports (s : State) (f : Tracker → Tracker) :
    (s.modifyTracker f).ports = s.ports := rfl
@[simp] theorem State.modifyTracker_openChoice (s : State) (f : Tracker → Tracker) :
    (s.modifyTracker f).openChoice = s.openChoice := rfl
@[simp] theorem State.modifyTracker_pending (s : State) (f : Tracker → Tracker) :
    (s.modifyTracker f).pending = s.pending := rfl
/-! ### modifyAcc -/

@[simp] theorem State.modifyAcc_power (s : State) (f : Accumulator → Accumulator) :
    (s.modifyAcc f).power = s.power := rfl
@[simp] theorem State.modifyAcc_pins (s : State) (f : Accumulator → Accumulator) :
    (s.modifyAcc f).pins = s.pins := rfl
@[simp] theorem State.modifyAcc_clock (s : State) (f : Accumulator → Accumulator) :
    (s.modifyAcc f).clock = s.clock := rfl
@[simp] theorem State.modifyAcc_resetRecord (s : State) (f : Accumulator → Accumulator) :
    (s.modifyAcc f).resetRecord = s.resetRecord := rfl
@[simp] theorem State.modifyAcc_link (s : State) (f : Accumulator → Accumulator) :
    (s.modifyAcc f).link = s.link := rfl
@[simp] theorem State.modifyAcc_tracker (s : State) (f : Accumulator → Accumulator) :
    (s.modifyAcc f).tracker = s.tracker := rfl
@[simp] theorem State.modifyAcc_weigh (s : State) (f : Accumulator → Accumulator) :
    (s.modifyAcc f).weigh = { s.weigh with acc := f s.weigh.acc } := rfl
@[simp] theorem State.modifyAcc_cal (s : State) (f : Accumulator → Accumulator) :
    (s.modifyAcc f).cal = s.cal := rfl
@[simp] theorem State.modifyAcc_bays (s : State) (f : Accumulator → Accumulator) :
    (s.modifyAcc f).bays = s.bays := rfl
@[simp] theorem State.modifyAcc_trucks (s : State) (f : Accumulator → Accumulator) :
    (s.modifyAcc f).trucks = s.trucks := rfl
@[simp] theorem State.modifyAcc_materials (s : State) (f : Accumulator → Accumulator) :
    (s.modifyAcc f).materials = s.materials := rfl
@[simp] theorem State.modifyAcc_log (s : State) (f : Accumulator → Accumulator) :
    (s.modifyAcc f).log = s.log := rfl
@[simp] theorem State.modifyAcc_shift (s : State) (f : Accumulator → Accumulator) :
    (s.modifyAcc f).shift = s.shift := rfl
@[simp] theorem State.modifyAcc_supply (s : State) (f : Accumulator → Accumulator) :
    (s.modifyAcc f).supply = s.supply := rfl
@[simp] theorem State.modifyAcc_arb (s : State) (f : Accumulator → Accumulator) :
    (s.modifyAcc f).arb = s.arb := rfl
@[simp] theorem State.modifyAcc_ports (s : State) (f : Accumulator → Accumulator) :
    (s.modifyAcc f).ports = s.ports := rfl
@[simp] theorem State.modifyAcc_openChoice (s : State) (f : Accumulator → Accumulator) :
    (s.modifyAcc f).openChoice = s.openChoice := rfl
@[simp] theorem State.modifyAcc_pending (s : State) (f : Accumulator → Accumulator) :
    (s.modifyAcc f).pending = s.pending := rfl
/-! ### modifyLink -/

@[simp] theorem State.modifyLink_power (s : State) (f : Link → Link) :
    (s.modifyLink f).power = s.power := rfl
@[simp] theorem State.modifyLink_pins (s : State) (f : Link → Link) :
    (s.modifyLink f).pins = s.pins := rfl
@[simp] theorem State.modifyLink_clock (s : State) (f : Link → Link) :
    (s.modifyLink f).clock = s.clock := rfl
@[simp] theorem State.modifyLink_resetRecord (s : State) (f : Link → Link) :
    (s.modifyLink f).resetRecord = s.resetRecord := rfl
@[simp] theorem State.modifyLink_link (s : State) (f : Link → Link) :
    (s.modifyLink f).link = f s.link := rfl
@[simp] theorem State.modifyLink_tracker (s : State) (f : Link → Link) :
    (s.modifyLink f).tracker = s.tracker := rfl
@[simp] theorem State.modifyLink_weigh (s : State) (f : Link → Link) :
    (s.modifyLink f).weigh = s.weigh := rfl
@[simp] theorem State.modifyLink_cal (s : State) (f : Link → Link) :
    (s.modifyLink f).cal = s.cal := rfl
@[simp] theorem State.modifyLink_bays (s : State) (f : Link → Link) :
    (s.modifyLink f).bays = s.bays := rfl
@[simp] theorem State.modifyLink_trucks (s : State) (f : Link → Link) :
    (s.modifyLink f).trucks = s.trucks := rfl
@[simp] theorem State.modifyLink_materials (s : State) (f : Link → Link) :
    (s.modifyLink f).materials = s.materials := rfl
@[simp] theorem State.modifyLink_log (s : State) (f : Link → Link) :
    (s.modifyLink f).log = s.log := rfl
@[simp] theorem State.modifyLink_shift (s : State) (f : Link → Link) :
    (s.modifyLink f).shift = s.shift := rfl
@[simp] theorem State.modifyLink_supply (s : State) (f : Link → Link) :
    (s.modifyLink f).supply = s.supply := rfl
@[simp] theorem State.modifyLink_arb (s : State) (f : Link → Link) :
    (s.modifyLink f).arb = s.arb := rfl
@[simp] theorem State.modifyLink_ports (s : State) (f : Link → Link) :
    (s.modifyLink f).ports = s.ports := rfl
@[simp] theorem State.modifyLink_openChoice (s : State) (f : Link → Link) :
    (s.modifyLink f).openChoice = s.openChoice := rfl
@[simp] theorem State.modifyLink_pending (s : State) (f : Link → Link) :
    (s.modifyLink f).pending = s.pending := rfl
/-! ### modifyCal -/

@[simp] theorem State.modifyCal_power (s : State) (f : Cal → Cal) :
    (s.modifyCal f).power = s.power := rfl
@[simp] theorem State.modifyCal_pins (s : State) (f : Cal → Cal) :
    (s.modifyCal f).pins = s.pins := rfl
@[simp] theorem State.modifyCal_clock (s : State) (f : Cal → Cal) :
    (s.modifyCal f).clock = s.clock := rfl
@[simp] theorem State.modifyCal_resetRecord (s : State) (f : Cal → Cal) :
    (s.modifyCal f).resetRecord = s.resetRecord := rfl
@[simp] theorem State.modifyCal_link (s : State) (f : Cal → Cal) :
    (s.modifyCal f).link = s.link := rfl
@[simp] theorem State.modifyCal_tracker (s : State) (f : Cal → Cal) :
    (s.modifyCal f).tracker = s.tracker := rfl
@[simp] theorem State.modifyCal_weigh (s : State) (f : Cal → Cal) :
    (s.modifyCal f).weigh = s.weigh := rfl
@[simp] theorem State.modifyCal_cal (s : State) (f : Cal → Cal) :
    (s.modifyCal f).cal = f s.cal := rfl
@[simp] theorem State.modifyCal_bays (s : State) (f : Cal → Cal) :
    (s.modifyCal f).bays = s.bays := rfl
@[simp] theorem State.modifyCal_trucks (s : State) (f : Cal → Cal) :
    (s.modifyCal f).trucks = s.trucks := rfl
@[simp] theorem State.modifyCal_materials (s : State) (f : Cal → Cal) :
    (s.modifyCal f).materials = s.materials := rfl
@[simp] theorem State.modifyCal_log (s : State) (f : Cal → Cal) :
    (s.modifyCal f).log = s.log := rfl
@[simp] theorem State.modifyCal_shift (s : State) (f : Cal → Cal) :
    (s.modifyCal f).shift = s.shift := rfl
@[simp] theorem State.modifyCal_supply (s : State) (f : Cal → Cal) :
    (s.modifyCal f).supply = s.supply := rfl
@[simp] theorem State.modifyCal_arb (s : State) (f : Cal → Cal) :
    (s.modifyCal f).arb = s.arb := rfl
@[simp] theorem State.modifyCal_ports (s : State) (f : Cal → Cal) :
    (s.modifyCal f).ports = s.ports := rfl
@[simp] theorem State.modifyCal_openChoice (s : State) (f : Cal → Cal) :
    (s.modifyCal f).openChoice = s.openChoice := rfl
@[simp] theorem State.modifyCal_pending (s : State) (f : Cal → Cal) :
    (s.modifyCal f).pending = s.pending := rfl
/-! ### modifySet -/

@[simp] theorem State.modifySet_power (s : State) (i : Fin 8) (f : TruckSet → TruckSet) :
    (s.modifySet i f).power = s.power := rfl
@[simp] theorem State.modifySet_pins (s : State) (i : Fin 8) (f : TruckSet → TruckSet) :
    (s.modifySet i f).pins = s.pins := rfl
@[simp] theorem State.modifySet_clock (s : State) (i : Fin 8) (f : TruckSet → TruckSet) :
    (s.modifySet i f).clock = s.clock := rfl
@[simp] theorem State.modifySet_resetRecord (s : State) (i : Fin 8) (f : TruckSet → TruckSet) :
    (s.modifySet i f).resetRecord = s.resetRecord := rfl
@[simp] theorem State.modifySet_link (s : State) (i : Fin 8) (f : TruckSet → TruckSet) :
    (s.modifySet i f).link = s.link := rfl
@[simp] theorem State.modifySet_tracker (s : State) (i : Fin 8) (f : TruckSet → TruckSet) :
    (s.modifySet i f).tracker = s.tracker := rfl
@[simp] theorem State.modifySet_weigh (s : State) (i : Fin 8) (f : TruckSet → TruckSet) :
    (s.modifySet i f).weigh = s.weigh := rfl
@[simp] theorem State.modifySet_cal (s : State) (i : Fin 8) (f : TruckSet → TruckSet) :
    (s.modifySet i f).cal = s.cal := rfl
@[simp] theorem State.modifySet_bays (s : State) (i : Fin 8) (f : TruckSet → TruckSet) :
    (s.modifySet i f).bays = s.bays := rfl
@[simp] theorem State.modifySet_trucks (s : State) (i : Fin 8) (f : TruckSet → TruckSet) :
    (s.modifySet i f).trucks = s.trucks.set i (f s.trucks[i]) := rfl
@[simp] theorem State.modifySet_materials (s : State) (i : Fin 8) (f : TruckSet → TruckSet) :
    (s.modifySet i f).materials = s.materials := rfl
@[simp] theorem State.modifySet_log (s : State) (i : Fin 8) (f : TruckSet → TruckSet) :
    (s.modifySet i f).log = s.log := rfl
@[simp] theorem State.modifySet_shift (s : State) (i : Fin 8) (f : TruckSet → TruckSet) :
    (s.modifySet i f).shift = s.shift := rfl
@[simp] theorem State.modifySet_supply (s : State) (i : Fin 8) (f : TruckSet → TruckSet) :
    (s.modifySet i f).supply = s.supply := rfl
@[simp] theorem State.modifySet_arb (s : State) (i : Fin 8) (f : TruckSet → TruckSet) :
    (s.modifySet i f).arb = s.arb := rfl
@[simp] theorem State.modifySet_ports (s : State) (i : Fin 8) (f : TruckSet → TruckSet) :
    (s.modifySet i f).ports = s.ports := rfl
@[simp] theorem State.modifySet_openChoice (s : State) (i : Fin 8) (f : TruckSet → TruckSet) :
    (s.modifySet i f).openChoice = s.openChoice := rfl
@[simp] theorem State.modifySet_pending (s : State) (i : Fin 8) (f : TruckSet → TruckSet) :
    (s.modifySet i f).pending = s.pending := rfl
/-! ### count -/

@[simp] theorem State.count_power (s : State) (f : Counters → Counters) :
    (s.count f).power = s.power := rfl
@[simp] theorem State.count_pins (s : State) (f : Counters → Counters) :
    (s.count f).pins = s.pins := rfl
@[simp] theorem State.count_clock (s : State) (f : Counters → Counters) :
    (s.count f).clock = s.clock := rfl
@[simp] theorem State.count_resetRecord (s : State) (f : Counters → Counters) :
    (s.count f).resetRecord = s.resetRecord := rfl
@[simp] theorem State.count_link (s : State) (f : Counters → Counters) :
    (s.count f).link = s.link := rfl
@[simp] theorem State.count_tracker (s : State) (f : Counters → Counters) :
    (s.count f).tracker = s.tracker := rfl
@[simp] theorem State.count_weigh (s : State) (f : Counters → Counters) :
    (s.count f).weigh = s.weigh := rfl
@[simp] theorem State.count_cal (s : State) (f : Counters → Counters) :
    (s.count f).cal = s.cal := rfl
@[simp] theorem State.count_bays (s : State) (f : Counters → Counters) :
    (s.count f).bays = s.bays := rfl
@[simp] theorem State.count_trucks (s : State) (f : Counters → Counters) :
    (s.count f).trucks = s.trucks := rfl
@[simp] theorem State.count_materials (s : State) (f : Counters → Counters) :
    (s.count f).materials = s.materials := rfl
@[simp] theorem State.count_log (s : State) (f : Counters → Counters) :
    (s.count f).log = s.log := rfl
@[simp] theorem State.count_shift (s : State) (f : Counters → Counters) :
    (s.count f).shift = { s.shift with counters := f s.shift.counters } := rfl
@[simp] theorem State.count_supply (s : State) (f : Counters → Counters) :
    (s.count f).supply = s.supply := rfl
@[simp] theorem State.count_arb (s : State) (f : Counters → Counters) :
    (s.count f).arb = s.arb := rfl
@[simp] theorem State.count_ports (s : State) (f : Counters → Counters) :
    (s.count f).ports = s.ports := rfl
@[simp] theorem State.count_openChoice (s : State) (f : Counters → Counters) :
    (s.count f).openChoice = s.openChoice := rfl
@[simp] theorem State.count_pending (s : State) (f : Counters → Counters) :
    (s.count f).pending = s.pending := rfl
/-! ### hand -/

@[simp] theorem State.hand_power (s : State) (i : Item) :
    (s.hand i).power = s.power := rfl
@[simp] theorem State.hand_pins (s : State) (i : Item) :
    (s.hand i).pins = s.pins := rfl
@[simp] theorem State.hand_clock (s : State) (i : Item) :
    (s.hand i).clock = s.clock := rfl
@[simp] theorem State.hand_resetRecord (s : State) (i : Item) :
    (s.hand i).resetRecord = s.resetRecord := rfl
@[simp] theorem State.hand_link (s : State) (i : Item) :
    (s.hand i).link = s.link := rfl
@[simp] theorem State.hand_tracker (s : State) (i : Item) :
    (s.hand i).tracker = s.tracker := rfl
@[simp] theorem State.hand_weigh (s : State) (i : Item) :
    (s.hand i).weigh = s.weigh := rfl
@[simp] theorem State.hand_cal (s : State) (i : Item) :
    (s.hand i).cal = s.cal := rfl
@[simp] theorem State.hand_bays (s : State) (i : Item) :
    (s.hand i).bays = s.bays := rfl
@[simp] theorem State.hand_trucks (s : State) (i : Item) :
    (s.hand i).trucks = s.trucks := rfl
@[simp] theorem State.hand_materials (s : State) (i : Item) :
    (s.hand i).materials = s.materials := rfl
@[simp] theorem State.hand_log (s : State) (i : Item) :
    (s.hand i).log = s.log := rfl
@[simp] theorem State.hand_shift (s : State) (i : Item) :
    (s.hand i).shift = s.shift := rfl
@[simp] theorem State.hand_supply (s : State) (i : Item) :
    (s.hand i).supply = s.supply := rfl
@[simp] theorem State.hand_arb (s : State) (i : Item) :
    (s.hand i).arb = { s.arb with items := s.arb.items ++ [i] } := rfl
@[simp] theorem State.hand_ports (s : State) (i : Item) :
    (s.hand i).ports = s.ports := rfl
@[simp] theorem State.hand_openChoice (s : State) (i : Item) :
    (s.hand i).openChoice = s.openChoice := rfl
@[simp] theorem State.hand_pending (s : State) (i : Item) :
    (s.hand i).pending = s.pending := rfl
/-! ### dropItem -/

@[simp] theorem State.dropItem_power (s : State) :
    (s.dropItem).power = s.power := rfl
@[simp] theorem State.dropItem_pins (s : State) :
    (s.dropItem).pins = s.pins := rfl
@[simp] theorem State.dropItem_clock (s : State) :
    (s.dropItem).clock = s.clock := rfl
@[simp] theorem State.dropItem_resetRecord (s : State) :
    (s.dropItem).resetRecord = s.resetRecord := rfl
@[simp] theorem State.dropItem_link (s : State) :
    (s.dropItem).link = s.link := rfl
@[simp] theorem State.dropItem_tracker (s : State) :
    (s.dropItem).tracker = s.tracker := rfl
@[simp] theorem State.dropItem_weigh (s : State) :
    (s.dropItem).weigh = s.weigh := rfl
@[simp] theorem State.dropItem_cal (s : State) :
    (s.dropItem).cal = s.cal := rfl
@[simp] theorem State.dropItem_bays (s : State) :
    (s.dropItem).bays = s.bays := rfl
@[simp] theorem State.dropItem_trucks (s : State) :
    (s.dropItem).trucks = s.trucks := rfl
@[simp] theorem State.dropItem_materials (s : State) :
    (s.dropItem).materials = s.materials := rfl
@[simp] theorem State.dropItem_log (s : State) :
    (s.dropItem).log = s.log := rfl
@[simp] theorem State.dropItem_shift (s : State) :
    (s.dropItem).shift = s.shift := rfl
@[simp] theorem State.dropItem_supply (s : State) :
    (s.dropItem).supply = s.supply := rfl
@[simp] theorem State.dropItem_arb (s : State) :
    (s.dropItem).arb = { s.arb with items := s.arb.items.tail } := rfl
@[simp] theorem State.dropItem_ports (s : State) :
    (s.dropItem).ports = s.ports := rfl
@[simp] theorem State.dropItem_openChoice (s : State) :
    (s.dropItem).openChoice = s.openChoice := rfl
@[simp] theorem State.dropItem_pending (s : State) :
    (s.dropItem).pending = s.pending := rfl
/-! ### answer -/

@[simp] theorem State.answer_power (s : State) (p : Port) (a : Answer) :
    (s.answer p a).power = s.power := rfl
@[simp] theorem State.answer_pins (s : State) (p : Port) (a : Answer) :
    (s.answer p a).pins = s.pins := rfl
@[simp] theorem State.answer_clock (s : State) (p : Port) (a : Answer) :
    (s.answer p a).clock = s.clock := rfl
@[simp] theorem State.answer_resetRecord (s : State) (p : Port) (a : Answer) :
    (s.answer p a).resetRecord = s.resetRecord := rfl
@[simp] theorem State.answer_link (s : State) (p : Port) (a : Answer) :
    (s.answer p a).link = s.link := rfl
@[simp] theorem State.answer_tracker (s : State) (p : Port) (a : Answer) :
    (s.answer p a).tracker = s.tracker := rfl
@[simp] theorem State.answer_weigh (s : State) (p : Port) (a : Answer) :
    (s.answer p a).weigh = s.weigh := rfl
@[simp] theorem State.answer_cal (s : State) (p : Port) (a : Answer) :
    (s.answer p a).cal = s.cal := rfl
@[simp] theorem State.answer_bays (s : State) (p : Port) (a : Answer) :
    (s.answer p a).bays = s.bays := rfl
@[simp] theorem State.answer_trucks (s : State) (p : Port) (a : Answer) :
    (s.answer p a).trucks = s.trucks := rfl
@[simp] theorem State.answer_materials (s : State) (p : Port) (a : Answer) :
    (s.answer p a).materials = s.materials := rfl
@[simp] theorem State.answer_log (s : State) (p : Port) (a : Answer) :
    (s.answer p a).log = s.log := rfl
@[simp] theorem State.answer_shift (s : State) (p : Port) (a : Answer) :
    (s.answer p a).shift = s.shift := rfl
@[simp] theorem State.answer_supply (s : State) (p : Port) (a : Answer) :
    (s.answer p a).supply = s.supply := rfl
@[simp] theorem State.answer_arb (s : State) (p : Port) (a : Answer) :
    (s.answer p a).arb = s.arb := rfl
@[simp] theorem State.answer_ports (s : State) (p : Port) (a : Answer) :
    (s.answer p a).ports = s.ports.modify p fun b => { b with answers := b.answers ++ [a] } := rfl
@[simp] theorem State.answer_openChoice (s : State) (p : Port) (a : Answer) :
    (s.answer p a).openChoice = s.openChoice := rfl
@[simp] theorem State.answer_pending (s : State) (p : Port) (a : Answer) :
    (s.answer p a).pending = s.pending := rfl
/-! ### dropRequest -/

@[simp] theorem State.dropRequest_power (s : State) (p : Port) :
    (s.dropRequest p).power = s.power := rfl
@[simp] theorem State.dropRequest_pins (s : State) (p : Port) :
    (s.dropRequest p).pins = s.pins := rfl
@[simp] theorem State.dropRequest_clock (s : State) (p : Port) :
    (s.dropRequest p).clock = s.clock := rfl
@[simp] theorem State.dropRequest_resetRecord (s : State) (p : Port) :
    (s.dropRequest p).resetRecord = s.resetRecord := rfl
@[simp] theorem State.dropRequest_link (s : State) (p : Port) :
    (s.dropRequest p).link = s.link := rfl
@[simp] theorem State.dropRequest_tracker (s : State) (p : Port) :
    (s.dropRequest p).tracker = s.tracker := rfl
@[simp] theorem State.dropRequest_weigh (s : State) (p : Port) :
    (s.dropRequest p).weigh = s.weigh := rfl
@[simp] theorem State.dropRequest_cal (s : State) (p : Port) :
    (s.dropRequest p).cal = s.cal := rfl
@[simp] theorem State.dropRequest_bays (s : State) (p : Port) :
    (s.dropRequest p).bays = s.bays := rfl
@[simp] theorem State.dropRequest_trucks (s : State) (p : Port) :
    (s.dropRequest p).trucks = s.trucks := rfl
@[simp] theorem State.dropRequest_materials (s : State) (p : Port) :
    (s.dropRequest p).materials = s.materials := rfl
@[simp] theorem State.dropRequest_log (s : State) (p : Port) :
    (s.dropRequest p).log = s.log := rfl
@[simp] theorem State.dropRequest_shift (s : State) (p : Port) :
    (s.dropRequest p).shift = s.shift := rfl
@[simp] theorem State.dropRequest_supply (s : State) (p : Port) :
    (s.dropRequest p).supply = s.supply := rfl
@[simp] theorem State.dropRequest_arb (s : State) (p : Port) :
    (s.dropRequest p).arb = { s.arb with lastServed := p } := rfl
@[simp] theorem State.dropRequest_ports (s : State) (p : Port) :
    (s.dropRequest p).ports = s.ports.modify p fun b => { b with queue := b.queue.tail } := rfl
@[simp] theorem State.dropRequest_openChoice (s : State) (p : Port) :
    (s.dropRequest p).openChoice = s.openChoice := rfl
@[simp] theorem State.dropRequest_pending (s : State) (p : Port) :
    (s.dropRequest p).pending = s.pending := rfl
/-! ### emptyAcc -/

@[simp] theorem State.emptyAcc_power (s : State) :
    (s.emptyAcc).power = s.power := rfl
@[simp] theorem State.emptyAcc_pins (s : State) :
    (s.emptyAcc).pins = s.pins := rfl
@[simp] theorem State.emptyAcc_clock (s : State) :
    (s.emptyAcc).clock = s.clock := rfl
@[simp] theorem State.emptyAcc_resetRecord (s : State) :
    (s.emptyAcc).resetRecord = s.resetRecord := rfl
@[simp] theorem State.emptyAcc_link (s : State) :
    (s.emptyAcc).link = s.link := rfl
@[simp] theorem State.emptyAcc_tracker (s : State) :
    (s.emptyAcc).tracker = s.tracker := rfl
@[simp] theorem State.emptyAcc_weigh (s : State) :
    (s.emptyAcc).weigh = { s.weigh with acc := Accumulator.empty } := rfl
@[simp] theorem State.emptyAcc_cal (s : State) :
    (s.emptyAcc).cal = s.cal := rfl
@[simp] theorem State.emptyAcc_bays (s : State) :
    (s.emptyAcc).bays = s.bays := rfl
@[simp] theorem State.emptyAcc_trucks (s : State) :
    (s.emptyAcc).trucks = s.trucks := rfl
@[simp] theorem State.emptyAcc_materials (s : State) :
    (s.emptyAcc).materials = s.materials := rfl
@[simp] theorem State.emptyAcc_log (s : State) :
    (s.emptyAcc).log = s.log := rfl
@[simp] theorem State.emptyAcc_shift (s : State) :
    (s.emptyAcc).shift = s.shift := rfl
@[simp] theorem State.emptyAcc_supply (s : State) :
    (s.emptyAcc).supply = s.supply := rfl
@[simp] theorem State.emptyAcc_arb (s : State) :
    (s.emptyAcc).arb = s.arb := rfl
@[simp] theorem State.emptyAcc_ports (s : State) :
    (s.emptyAcc).ports = s.ports := rfl
@[simp] theorem State.emptyAcc_openChoice (s : State) :
    (s.emptyAcc).openChoice = s.openChoice := rfl
@[simp] theorem State.emptyAcc_pending (s : State) :
    (s.emptyAcc).pending = s.pending := rfl
/-! ### emptyCaptureBins -/

@[simp] theorem State.emptyCaptureBins_power (s : State) :
    (s.emptyCaptureBins).power = s.power := rfl
@[simp] theorem State.emptyCaptureBins_pins (s : State) :
    (s.emptyCaptureBins).pins = s.pins := rfl
@[simp] theorem State.emptyCaptureBins_clock (s : State) :
    (s.emptyCaptureBins).clock = s.clock := rfl
@[simp] theorem State.emptyCaptureBins_resetRecord (s : State) :
    (s.emptyCaptureBins).resetRecord = s.resetRecord := rfl
@[simp] theorem State.emptyCaptureBins_link (s : State) :
    (s.emptyCaptureBins).link = s.link := rfl
@[simp] theorem State.emptyCaptureBins_tracker (s : State) :
    (s.emptyCaptureBins).tracker = s.tracker := rfl
@[simp] theorem State.emptyCaptureBins_weigh (s : State) :
    (s.emptyCaptureBins).weigh = { s.weigh with bins := emptyBins } := rfl
@[simp] theorem State.emptyCaptureBins_cal (s : State) :
    (s.emptyCaptureBins).cal = s.cal := rfl
@[simp] theorem State.emptyCaptureBins_bays (s : State) :
    (s.emptyCaptureBins).bays = s.bays := rfl
@[simp] theorem State.emptyCaptureBins_trucks (s : State) :
    (s.emptyCaptureBins).trucks = s.trucks := rfl
@[simp] theorem State.emptyCaptureBins_materials (s : State) :
    (s.emptyCaptureBins).materials = s.materials := rfl
@[simp] theorem State.emptyCaptureBins_log (s : State) :
    (s.emptyCaptureBins).log = s.log := rfl
@[simp] theorem State.emptyCaptureBins_shift (s : State) :
    (s.emptyCaptureBins).shift = s.shift := rfl
@[simp] theorem State.emptyCaptureBins_supply (s : State) :
    (s.emptyCaptureBins).supply = s.supply := rfl
@[simp] theorem State.emptyCaptureBins_arb (s : State) :
    (s.emptyCaptureBins).arb = s.arb := rfl
@[simp] theorem State.emptyCaptureBins_ports (s : State) :
    (s.emptyCaptureBins).ports = s.ports := rfl
@[simp] theorem State.emptyCaptureBins_openChoice (s : State) :
    (s.emptyCaptureBins).openChoice = s.openChoice := rfl
@[simp] theorem State.emptyCaptureBins_pending (s : State) :
    (s.emptyCaptureBins).pending = s.pending := rfl
/-! ### goTo -/

@[simp] theorem State.goTo_power (s : State) (c : CycleState) :
    (s.goTo c).power = s.power := rfl
@[simp] theorem State.goTo_pins (s : State) (c : CycleState) :
    (s.goTo c).pins = s.pins := rfl
@[simp] theorem State.goTo_clock (s : State) (c : CycleState) :
    (s.goTo c).clock = s.clock := rfl
@[simp] theorem State.goTo_resetRecord (s : State) (c : CycleState) :
    (s.goTo c).resetRecord = s.resetRecord := rfl
@[simp] theorem State.goTo_link (s : State) (c : CycleState) :
    (s.goTo c).link = s.link := rfl
@[simp] theorem State.goTo_tracker (s : State) (c : CycleState) :
    (s.goTo c).tracker = { s.tracker with cycle := c } := rfl
@[simp] theorem State.goTo_weigh (s : State) (c : CycleState) :
    (s.goTo c).weigh = s.weigh := rfl
@[simp] theorem State.goTo_cal (s : State) (c : CycleState) :
    (s.goTo c).cal = s.cal := rfl
@[simp] theorem State.goTo_bays (s : State) (c : CycleState) :
    (s.goTo c).bays = s.bays := rfl
@[simp] theorem State.goTo_trucks (s : State) (c : CycleState) :
    (s.goTo c).trucks = s.trucks := rfl
@[simp] theorem State.goTo_materials (s : State) (c : CycleState) :
    (s.goTo c).materials = s.materials := rfl
@[simp] theorem State.goTo_log (s : State) (c : CycleState) :
    (s.goTo c).log = s.log := rfl
@[simp] theorem State.goTo_shift (s : State) (c : CycleState) :
    (s.goTo c).shift = s.shift := rfl
@[simp] theorem State.goTo_supply (s : State) (c : CycleState) :
    (s.goTo c).supply = s.supply := rfl
@[simp] theorem State.goTo_arb (s : State) (c : CycleState) :
    (s.goTo c).arb = s.arb := rfl
@[simp] theorem State.goTo_ports (s : State) (c : CycleState) :
    (s.goTo c).ports = s.ports := rfl
@[simp] theorem State.goTo_openChoice (s : State) (c : CycleState) :
    (s.goTo c).openChoice = s.openChoice := rfl
@[simp] theorem State.goTo_pending (s : State) (c : CycleState) :
    (s.goTo c).pending = s.pending := rfl
/-! ### remember -/

@[simp] theorem State.remember_power (s : State) (r : SweepRecord) :
    (s.remember r).power = s.power := rfl
@[simp] theorem State.remember_pins (s : State) (r : SweepRecord) :
    (s.remember r).pins = s.pins := rfl
@[simp] theorem State.remember_clock (s : State) (r : SweepRecord) :
    (s.remember r).clock = s.clock := rfl
@[simp] theorem State.remember_resetRecord (s : State) (r : SweepRecord) :
    (s.remember r).resetRecord = s.resetRecord := rfl
@[simp] theorem State.remember_link (s : State) (r : SweepRecord) :
    (s.remember r).link = s.link := rfl
@[simp] theorem State.remember_tracker (s : State) (r : SweepRecord) :
    (s.remember r).tracker = { s.tracker with prevRecord := some r } := rfl
@[simp] theorem State.remember_weigh (s : State) (r : SweepRecord) :
    (s.remember r).weigh = s.weigh := rfl
@[simp] theorem State.remember_cal (s : State) (r : SweepRecord) :
    (s.remember r).cal = s.cal := rfl
@[simp] theorem State.remember_bays (s : State) (r : SweepRecord) :
    (s.remember r).bays = s.bays := rfl
@[simp] theorem State.remember_trucks (s : State) (r : SweepRecord) :
    (s.remember r).trucks = s.trucks := rfl
@[simp] theorem State.remember_materials (s : State) (r : SweepRecord) :
    (s.remember r).materials = s.materials := rfl
@[simp] theorem State.remember_log (s : State) (r : SweepRecord) :
    (s.remember r).log = s.log := rfl
@[simp] theorem State.remember_shift (s : State) (r : SweepRecord) :
    (s.remember r).shift = s.shift := rfl
@[simp] theorem State.remember_supply (s : State) (r : SweepRecord) :
    (s.remember r).supply = s.supply := rfl
@[simp] theorem State.remember_arb (s : State) (r : SweepRecord) :
    (s.remember r).arb = s.arb := rfl
@[simp] theorem State.remember_ports (s : State) (r : SweepRecord) :
    (s.remember r).ports = s.ports := rfl
@[simp] theorem State.remember_openChoice (s : State) (r : SweepRecord) :
    (s.remember r).openChoice = s.openChoice := rfl
@[simp] theorem State.remember_pending (s : State) (r : SweepRecord) :
    (s.remember r).pending = s.pending := rfl
/-! ### takeNumber -/

@[simp] theorem State.takeNumber_power (s : State) (d : Side) :
    (s.takeNumber d).power = s.power := rfl
@[simp] theorem State.takeNumber_pins (s : State) (d : Side) :
    (s.takeNumber d).pins = s.pins := rfl
@[simp] theorem State.takeNumber_clock (s : State) (d : Side) :
    (s.takeNumber d).clock = s.clock := rfl
@[simp] theorem State.takeNumber_resetRecord (s : State) (d : Side) :
    (s.takeNumber d).resetRecord = s.resetRecord := rfl
@[simp] theorem State.takeNumber_link (s : State) (d : Side) :
    (s.takeNumber d).link = s.link := rfl
@[simp] theorem State.takeNumber_tracker (s : State) (d : Side) :
    (s.takeNumber d).tracker = s.tracker := rfl
@[simp] theorem State.takeNumber_weigh (s : State) (d : Side) :
    (s.takeNumber d).weigh = s.weigh := rfl
@[simp] theorem State.takeNumber_cal (s : State) (d : Side) :
    (s.takeNumber d).cal = s.cal := rfl
@[simp] theorem State.takeNumber_bays (s : State) (d : Side) :
    (s.takeNumber d).bays = { s.bays with bay := s.bays.bay.modify d fun b => { b with load := s.bays.nextLoad }, nextLoad := nextLoadAfter s.bays.nextLoad } := rfl
@[simp] theorem State.takeNumber_trucks (s : State) (d : Side) :
    (s.takeNumber d).trucks = s.trucks := rfl
@[simp] theorem State.takeNumber_materials (s : State) (d : Side) :
    (s.takeNumber d).materials = s.materials := rfl
@[simp] theorem State.takeNumber_log (s : State) (d : Side) :
    (s.takeNumber d).log = s.log := rfl
@[simp] theorem State.takeNumber_shift (s : State) (d : Side) :
    (s.takeNumber d).shift = s.shift := rfl
@[simp] theorem State.takeNumber_supply (s : State) (d : Side) :
    (s.takeNumber d).supply = s.supply := rfl
@[simp] theorem State.takeNumber_arb (s : State) (d : Side) :
    (s.takeNumber d).arb = s.arb := rfl
@[simp] theorem State.takeNumber_ports (s : State) (d : Side) :
    (s.takeNumber d).ports = s.ports := rfl
@[simp] theorem State.takeNumber_openChoice (s : State) (d : Side) :
    (s.takeNumber d).openChoice = s.openChoice := rfl
@[simp] theorem State.takeNumber_pending (s : State) (d : Side) :
    (s.takeNumber d).pending = s.pending := rfl
/-! ### Updates that branch -/

@[simp] theorem State.raise_power (s : State) (n : Notice) :
    (s.raise n).power = s.power := by
  unfold State.raise; dsimp only; split <;> rfl

@[simp] theorem State.raise_pins (s : State) (n : Notice) :
    (s.raise n).pins = s.pins := by
  unfold State.raise; dsimp only; split <;> rfl

@[simp] theorem State.raise_clock (s : State) (n : Notice) :
    (s.raise n).clock = s.clock := by
  unfold State.raise; dsimp only; split <;> rfl

@[simp] theorem State.raise_resetRecord (s : State) (n : Notice) :
    (s.raise n).resetRecord = s.resetRecord := by
  unfold State.raise; dsimp only; split <;> rfl

@[simp] theorem State.raise_link (s : State) (n : Notice) :
    (s.raise n).link = s.link := by
  unfold State.raise; dsimp only; split <;> rfl

@[simp] theorem State.raise_tracker (s : State) (n : Notice) :
    (s.raise n).tracker = s.tracker := by
  unfold State.raise; dsimp only; split <;> rfl

@[simp] theorem State.raise_weigh (s : State) (n : Notice) :
    (s.raise n).weigh = s.weigh := by
  unfold State.raise; dsimp only; split <;> rfl

@[simp] theorem State.raise_cal (s : State) (n : Notice) :
    (s.raise n).cal = s.cal := by
  unfold State.raise; dsimp only; split <;> rfl

@[simp] theorem State.raise_bays (s : State) (n : Notice) :
    (s.raise n).bays = s.bays := by
  unfold State.raise; dsimp only; split <;> rfl

@[simp] theorem State.raise_trucks (s : State) (n : Notice) :
    (s.raise n).trucks = s.trucks := by
  unfold State.raise; dsimp only; split <;> rfl

@[simp] theorem State.raise_materials (s : State) (n : Notice) :
    (s.raise n).materials = s.materials := by
  unfold State.raise; dsimp only; split <;> rfl

@[simp] theorem State.raise_log (s : State) (n : Notice) :
    (s.raise n).log = s.log := by
  unfold State.raise; dsimp only; split <;> rfl

@[simp] theorem State.raise_shift (s : State) (n : Notice) :
    (s.raise n).shift = s.shift := by
  unfold State.raise; dsimp only; split <;> rfl

@[simp] theorem State.raise_supply (s : State) (n : Notice) :
    (s.raise n).supply = s.supply := by
  unfold State.raise; dsimp only; split <;> rfl

@[simp] theorem State.raise_arb (s : State) (n : Notice) :
    (s.raise n).arb = s.arb := by
  unfold State.raise; dsimp only; split <;> rfl

@[simp] theorem State.raise_openChoice (s : State) (n : Notice) :
    (s.raise n).openChoice = s.openChoice := by
  unfold State.raise; dsimp only; split <;> rfl

@[simp] theorem State.raise_pending (s : State) (n : Notice) :
    (s.raise n).pending = s.pending := by
  unfold State.raise; dsimp only; split <;> rfl

@[simp] theorem State.raiseBayChange_power (s : State) (pre : State) (d : Side) :
    (pre.raiseBayChange d s).power = s.power := by
  unfold State.raiseBayChange; split <;> simp

@[simp] theorem State.raiseBayChange_pins (s : State) (pre : State) (d : Side) :
    (pre.raiseBayChange d s).pins = s.pins := by
  unfold State.raiseBayChange; split <;> simp

@[simp] theorem State.raiseBayChange_clock (s : State) (pre : State) (d : Side) :
    (pre.raiseBayChange d s).clock = s.clock := by
  unfold State.raiseBayChange; split <;> simp

@[simp] theorem State.raiseBayChange_resetRecord (s : State) (pre : State) (d : Side) :
    (pre.raiseBayChange d s).resetRecord = s.resetRecord := by
  unfold State.raiseBayChange; split <;> simp

@[simp] theorem State.raiseBayChange_link (s : State) (pre : State) (d : Side) :
    (pre.raiseBayChange d s).link = s.link := by
  unfold State.raiseBayChange; split <;> simp

@[simp] theorem State.raiseBayChange_tracker (s : State) (pre : State) (d : Side) :
    (pre.raiseBayChange d s).tracker = s.tracker := by
  unfold State.raiseBayChange; split <;> simp

@[simp] theorem State.raiseBayChange_weigh (s : State) (pre : State) (d : Side) :
    (pre.raiseBayChange d s).weigh = s.weigh := by
  unfold State.raiseBayChange; split <;> simp

@[simp] theorem State.raiseBayChange_cal (s : State) (pre : State) (d : Side) :
    (pre.raiseBayChange d s).cal = s.cal := by
  unfold State.raiseBayChange; split <;> simp

@[simp] theorem State.raiseBayChange_bays (s : State) (pre : State) (d : Side) :
    (pre.raiseBayChange d s).bays = s.bays := by
  unfold State.raiseBayChange; split <;> simp

@[simp] theorem State.raiseBayChange_trucks (s : State) (pre : State) (d : Side) :
    (pre.raiseBayChange d s).trucks = s.trucks := by
  unfold State.raiseBayChange; split <;> simp

@[simp] theorem State.raiseBayChange_materials (s : State) (pre : State) (d : Side) :
    (pre.raiseBayChange d s).materials = s.materials := by
  unfold State.raiseBayChange; split <;> simp

@[simp] theorem State.raiseBayChange_log (s : State) (pre : State) (d : Side) :
    (pre.raiseBayChange d s).log = s.log := by
  unfold State.raiseBayChange; split <;> simp

@[simp] theorem State.raiseBayChange_shift (s : State) (pre : State) (d : Side) :
    (pre.raiseBayChange d s).shift = s.shift := by
  unfold State.raiseBayChange; split <;> simp

@[simp] theorem State.raiseBayChange_supply (s : State) (pre : State) (d : Side) :
    (pre.raiseBayChange d s).supply = s.supply := by
  unfold State.raiseBayChange; split <;> simp

@[simp] theorem State.raiseBayChange_arb (s : State) (pre : State) (d : Side) :
    (pre.raiseBayChange d s).arb = s.arb := by
  unfold State.raiseBayChange; split <;> simp

@[simp] theorem State.raiseBayChange_openChoice (s : State) (pre : State) (d : Side) :
    (pre.raiseBayChange d s).openChoice = s.openChoice := by
  unfold State.raiseBayChange; split <;> simp

@[simp] theorem State.raiseBayChange_pending (s : State) (pre : State) (d : Side) :
    (pre.raiseBayChange d s).pending = s.pending := by
  unfold State.raiseBayChange; split <;> simp

@[simp] theorem State.settle_power (s : State) (pre : State) :
    (pre.settle s).power = s.power := by
  unfold State.settle; simp

@[simp] theorem State.settle_pins (s : State) (pre : State) :
    (pre.settle s).pins = s.pins := by
  unfold State.settle; simp

@[simp] theorem State.settle_clock (s : State) (pre : State) :
    (pre.settle s).clock = s.clock := by
  unfold State.settle; simp

@[simp] theorem State.settle_resetRecord (s : State) (pre : State) :
    (pre.settle s).resetRecord = s.resetRecord := by
  unfold State.settle; simp

@[simp] theorem State.settle_link (s : State) (pre : State) :
    (pre.settle s).link = s.link := by
  unfold State.settle; simp

@[simp] theorem State.settle_tracker (s : State) (pre : State) :
    (pre.settle s).tracker = s.tracker := by
  unfold State.settle; simp

@[simp] theorem State.settle_weigh (s : State) (pre : State) :
    (pre.settle s).weigh = s.weigh := by
  unfold State.settle; simp

@[simp] theorem State.settle_cal (s : State) (pre : State) :
    (pre.settle s).cal = s.cal := by
  unfold State.settle; simp

@[simp] theorem State.settle_bays (s : State) (pre : State) :
    (pre.settle s).bays = s.bays := by
  unfold State.settle; simp

@[simp] theorem State.settle_trucks (s : State) (pre : State) :
    (pre.settle s).trucks = s.trucks := by
  unfold State.settle; simp

@[simp] theorem State.settle_materials (s : State) (pre : State) :
    (pre.settle s).materials = s.materials := by
  unfold State.settle; simp

@[simp] theorem State.settle_log (s : State) (pre : State) :
    (pre.settle s).log = s.log := by
  unfold State.settle; simp

@[simp] theorem State.settle_shift (s : State) (pre : State) :
    (pre.settle s).shift = s.shift := by
  unfold State.settle; simp

@[simp] theorem State.settle_supply (s : State) (pre : State) :
    (pre.settle s).supply = s.supply := by
  unfold State.settle; simp

@[simp] theorem State.settle_openChoice (s : State) (pre : State) :
    (pre.settle s).openChoice = s.openChoice := by
  unfold State.settle; simp

@[simp] theorem State.settle_pending (s : State) (pre : State) :
    (pre.settle s).pending = s.pending := by
  unfold State.settle; simp

@[simp] theorem State.readCalen_power (s : State) (c : Option Bool) :
    (s.readCalen c).power = s.power := by
  cases c <;> rfl

@[simp] theorem State.readCalen_clock (s : State) (c : Option Bool) :
    (s.readCalen c).clock = s.clock := by
  cases c <;> rfl

@[simp] theorem State.readCalen_resetRecord (s : State) (c : Option Bool) :
    (s.readCalen c).resetRecord = s.resetRecord := by
  cases c <;> rfl

@[simp] theorem State.readCalen_link (s : State) (c : Option Bool) :
    (s.readCalen c).link = s.link := by
  cases c <;> rfl

@[simp] theorem State.readCalen_tracker (s : State) (c : Option Bool) :
    (s.readCalen c).tracker = s.tracker := by
  cases c <;> rfl

@[simp] theorem State.readCalen_weigh (s : State) (c : Option Bool) :
    (s.readCalen c).weigh = s.weigh := by
  cases c <;> rfl

@[simp] theorem State.readCalen_cal (s : State) (c : Option Bool) :
    (s.readCalen c).cal = s.cal := by
  cases c <;> rfl

@[simp] theorem State.readCalen_bays (s : State) (c : Option Bool) :
    (s.readCalen c).bays = s.bays := by
  cases c <;> rfl

@[simp] theorem State.readCalen_trucks (s : State) (c : Option Bool) :
    (s.readCalen c).trucks = s.trucks := by
  cases c <;> rfl

@[simp] theorem State.readCalen_materials (s : State) (c : Option Bool) :
    (s.readCalen c).materials = s.materials := by
  cases c <;> rfl

@[simp] theorem State.readCalen_log (s : State) (c : Option Bool) :
    (s.readCalen c).log = s.log := by
  cases c <;> rfl

@[simp] theorem State.readCalen_shift (s : State) (c : Option Bool) :
    (s.readCalen c).shift = s.shift := by
  cases c <;> rfl

@[simp] theorem State.readCalen_supply (s : State) (c : Option Bool) :
    (s.readCalen c).supply = s.supply := by
  cases c <;> rfl

@[simp] theorem State.readCalen_arb (s : State) (c : Option Bool) :
    (s.readCalen c).arb = s.arb := by
  cases c <;> rfl

@[simp] theorem State.readCalen_ports (s : State) (c : Option Bool) :
    (s.readCalen c).ports = s.ports := by
  cases c <;> rfl

@[simp] theorem State.readCalen_openChoice (s : State) (c : Option Bool) :
    (s.readCalen c).openChoice = s.openChoice := by
  cases c <;> rfl

@[simp] theorem State.readCalen_pending (s : State) (c : Option Bool) :
    (s.readCalen c).pending = s.pending := by
  cases c <;> rfl

@[simp] theorem State.append_power (s : State) (r : LogRecord) :
    (s.append r).power = s.power := by
  cases r <;> simp [State.append]

@[simp] theorem State.append_pins (s : State) (r : LogRecord) :
    (s.append r).pins = s.pins := by
  cases r <;> simp [State.append]

@[simp] theorem State.append_clock (s : State) (r : LogRecord) :
    (s.append r).clock = s.clock := by
  cases r <;> simp [State.append]

@[simp] theorem State.append_resetRecord (s : State) (r : LogRecord) :
    (s.append r).resetRecord = s.resetRecord := by
  cases r <;> simp [State.append]

@[simp] theorem State.append_link (s : State) (r : LogRecord) :
    (s.append r).link = s.link := by
  cases r <;> simp [State.append]

@[simp] theorem State.append_tracker (s : State) (r : LogRecord) :
    (s.append r).tracker = s.tracker := by
  cases r <;> simp [State.append]

@[simp] theorem State.append_weigh (s : State) (r : LogRecord) :
    (s.append r).weigh = s.weigh := by
  cases r <;> simp [State.append]

@[simp] theorem State.append_cal (s : State) (r : LogRecord) :
    (s.append r).cal = s.cal := by
  cases r <;> simp [State.append]

@[simp] theorem State.append_bays (s : State) (r : LogRecord) :
    (s.append r).bays = s.bays := by
  cases r <;> simp [State.append]

@[simp] theorem State.append_trucks (s : State) (r : LogRecord) :
    (s.append r).trucks = s.trucks := by
  cases r <;> simp [State.append]

@[simp] theorem State.append_materials (s : State) (r : LogRecord) :
    (s.append r).materials = s.materials := by
  cases r <;> simp [State.append]

@[simp] theorem State.append_shift (s : State) (r : LogRecord) :
    (s.append r).shift = s.shift := by
  cases r <;> simp [State.append]

@[simp] theorem State.append_supply (s : State) (r : LogRecord) :
    (s.append r).supply = s.supply := by
  cases r <;> simp [State.append]

@[simp] theorem State.append_arb (s : State) (r : LogRecord) :
    (s.append r).arb = s.arb := by
  cases r <;> simp [State.append]

@[simp] theorem State.append_openChoice (s : State) (r : LogRecord) :
    (s.append r).openChoice = s.openChoice := by
  cases r <;> simp [State.append]

@[simp] theorem State.append_pending (s : State) (r : LogRecord) :
    (s.append r).pending = s.pending := by
  cases r <;> simp [State.append]

@[simp] theorem State.abortCapture_power (s : State) :
    (s.abortCapture).power = s.power := by
  unfold State.abortCapture; split <;> simp

@[simp] theorem State.abortCapture_pins (s : State) :
    (s.abortCapture).pins = s.pins := by
  unfold State.abortCapture; split <;> simp

@[simp] theorem State.abortCapture_clock (s : State) :
    (s.abortCapture).clock = s.clock := by
  unfold State.abortCapture; split <;> simp

@[simp] theorem State.abortCapture_resetRecord (s : State) :
    (s.abortCapture).resetRecord = s.resetRecord := by
  unfold State.abortCapture; split <;> simp

@[simp] theorem State.abortCapture_link (s : State) :
    (s.abortCapture).link = s.link := by
  unfold State.abortCapture; split <;> simp

@[simp] theorem State.abortCapture_cal (s : State) :
    (s.abortCapture).cal = s.cal := by
  unfold State.abortCapture; split <;> simp

@[simp] theorem State.abortCapture_bays (s : State) :
    (s.abortCapture).bays = s.bays := by
  unfold State.abortCapture; split <;> simp

@[simp] theorem State.abortCapture_trucks (s : State) :
    (s.abortCapture).trucks = s.trucks := by
  unfold State.abortCapture; split <;> simp

@[simp] theorem State.abortCapture_materials (s : State) :
    (s.abortCapture).materials = s.materials := by
  unfold State.abortCapture; split <;> simp

@[simp] theorem State.abortCapture_log (s : State) :
    (s.abortCapture).log = s.log := by
  unfold State.abortCapture; split <;> simp

@[simp] theorem State.abortCapture_shift (s : State) :
    (s.abortCapture).shift = s.shift := by
  unfold State.abortCapture; split <;> simp

@[simp] theorem State.abortCapture_supply (s : State) :
    (s.abortCapture).supply = s.supply := by
  unfold State.abortCapture; split <;> simp

@[simp] theorem State.abortCapture_ports (s : State) :
    (s.abortCapture).ports = s.ports := by
  unfold State.abortCapture; split <;> simp

@[simp] theorem State.abortCapture_openChoice (s : State) :
    (s.abortCapture).openChoice = s.openChoice := by
  unfold State.abortCapture; split <;> simp

@[simp] theorem State.abortCapture_pending (s : State) :
    (s.abortCapture).pending = s.pending := by
  unfold State.abortCapture; split <;> simp

@[simp] theorem State.setRole_power (s : State) (role : Role) (x : RoleRec) :
    (s.setRole role x).power = s.power := by
  unfold State.setRole; dsimp only; split <;> simp

@[simp] theorem State.setRole_pins (s : State) (role : Role) (x : RoleRec) :
    (s.setRole role x).pins = s.pins := by
  unfold State.setRole; dsimp only; split <;> simp

@[simp] theorem State.setRole_clock (s : State) (role : Role) (x : RoleRec) :
    (s.setRole role x).clock = s.clock := by
  unfold State.setRole; dsimp only; split <;> simp

@[simp] theorem State.setRole_resetRecord (s : State) (role : Role) (x : RoleRec) :
    (s.setRole role x).resetRecord = s.resetRecord := by
  unfold State.setRole; dsimp only; split <;> simp

@[simp] theorem State.setRole_tracker (s : State) (role : Role) (x : RoleRec) :
    (s.setRole role x).tracker = s.tracker := by
  unfold State.setRole; dsimp only; split <;> simp

@[simp] theorem State.setRole_weigh (s : State) (role : Role) (x : RoleRec) :
    (s.setRole role x).weigh = s.weigh := by
  unfold State.setRole; dsimp only; split <;> simp

@[simp] theorem State.setRole_cal (s : State) (role : Role) (x : RoleRec) :
    (s.setRole role x).cal = s.cal := by
  unfold State.setRole; dsimp only; split <;> simp

@[simp] theorem State.setRole_bays (s : State) (role : Role) (x : RoleRec) :
    (s.setRole role x).bays = s.bays := by
  unfold State.setRole; dsimp only; split <;> simp

@[simp] theorem State.setRole_trucks (s : State) (role : Role) (x : RoleRec) :
    (s.setRole role x).trucks = s.trucks := by
  unfold State.setRole; dsimp only; split <;> simp

@[simp] theorem State.setRole_materials (s : State) (role : Role) (x : RoleRec) :
    (s.setRole role x).materials = s.materials := by
  unfold State.setRole; dsimp only; split <;> simp

@[simp] theorem State.setRole_log (s : State) (role : Role) (x : RoleRec) :
    (s.setRole role x).log = s.log := by
  unfold State.setRole; dsimp only; split <;> simp

@[simp] theorem State.setRole_shift (s : State) (role : Role) (x : RoleRec) :
    (s.setRole role x).shift = s.shift := by
  unfold State.setRole; dsimp only; split <;> simp

@[simp] theorem State.setRole_supply (s : State) (role : Role) (x : RoleRec) :
    (s.setRole role x).supply = s.supply := by
  unfold State.setRole; dsimp only; split <;> simp

@[simp] theorem State.setRole_arb (s : State) (role : Role) (x : RoleRec) :
    (s.setRole role x).arb = s.arb := by
  unfold State.setRole; dsimp only; split <;> simp

@[simp] theorem State.setRole_openChoice (s : State) (role : Role) (x : RoleRec) :
    (s.setRole role x).openChoice = s.openChoice := by
  unfold State.setRole; dsimp only; split <;> simp

@[simp] theorem State.setRole_pending (s : State) (role : Role) (x : RoleRec) :
    (s.setRole role x).pending = s.pending := by
  unfold State.setRole; dsimp only; split <;> simp

@[simp] theorem State.overloadCheck_power (s : State) (net : Nat) (d : Side) :
    (s.overloadCheck net d).power = s.power := by
  unfold State.overloadCheck; dsimp only; split <;> (try split) <;> simp

@[simp] theorem State.overloadCheck_pins (s : State) (net : Nat) (d : Side) :
    (s.overloadCheck net d).pins = s.pins := by
  unfold State.overloadCheck; dsimp only; split <;> (try split) <;> simp

@[simp] theorem State.overloadCheck_clock (s : State) (net : Nat) (d : Side) :
    (s.overloadCheck net d).clock = s.clock := by
  unfold State.overloadCheck; dsimp only; split <;> (try split) <;> simp

@[simp] theorem State.overloadCheck_resetRecord (s : State) (net : Nat) (d : Side) :
    (s.overloadCheck net d).resetRecord = s.resetRecord := by
  unfold State.overloadCheck; dsimp only; split <;> (try split) <;> simp

@[simp] theorem State.overloadCheck_link (s : State) (net : Nat) (d : Side) :
    (s.overloadCheck net d).link = s.link := by
  unfold State.overloadCheck; dsimp only; split <;> (try split) <;> simp

@[simp] theorem State.overloadCheck_weigh (s : State) (net : Nat) (d : Side) :
    (s.overloadCheck net d).weigh = s.weigh := by
  unfold State.overloadCheck; dsimp only; split <;> (try split) <;> simp

@[simp] theorem State.overloadCheck_cal (s : State) (net : Nat) (d : Side) :
    (s.overloadCheck net d).cal = s.cal := by
  unfold State.overloadCheck; dsimp only; split <;> (try split) <;> simp

@[simp] theorem State.overloadCheck_bays (s : State) (net : Nat) (d : Side) :
    (s.overloadCheck net d).bays = s.bays := by
  unfold State.overloadCheck; dsimp only; split <;> (try split) <;> simp

@[simp] theorem State.overloadCheck_trucks (s : State) (net : Nat) (d : Side) :
    (s.overloadCheck net d).trucks = s.trucks := by
  unfold State.overloadCheck; dsimp only; split <;> (try split) <;> simp

@[simp] theorem State.overloadCheck_materials (s : State) (net : Nat) (d : Side) :
    (s.overloadCheck net d).materials = s.materials := by
  unfold State.overloadCheck; dsimp only; split <;> (try split) <;> simp

@[simp] theorem State.overloadCheck_log (s : State) (net : Nat) (d : Side) :
    (s.overloadCheck net d).log = s.log := by
  unfold State.overloadCheck; dsimp only; split <;> (try split) <;> simp

@[simp] theorem State.overloadCheck_shift (s : State) (net : Nat) (d : Side) :
    (s.overloadCheck net d).shift = s.shift := by
  unfold State.overloadCheck; dsimp only; split <;> (try split) <;> simp

@[simp] theorem State.overloadCheck_supply (s : State) (net : Nat) (d : Side) :
    (s.overloadCheck net d).supply = s.supply := by
  unfold State.overloadCheck; dsimp only; split <;> (try split) <;> simp

@[simp] theorem State.overloadCheck_arb (s : State) (net : Nat) (d : Side) :
    (s.overloadCheck net d).arb = s.arb := by
  unfold State.overloadCheck; dsimp only; split <;> (try split) <;> simp

@[simp] theorem State.overloadCheck_openChoice (s : State) (net : Nat) (d : Side) :
    (s.overloadCheck net d).openChoice = s.openChoice := by
  unfold State.overloadCheck; dsimp only; split <;> (try split) <;> simp

@[simp] theorem State.overloadCheck_pending (s : State) (net : Nat) (d : Side) :
    (s.overloadCheck net d).pending = s.pending := by
  unfold State.overloadCheck; dsimp only; split <;> (try split) <;> simp

/-! ### The fields that the branching updates change -/

@[simp] theorem State.append_log (s : State) (r : LogRecord) : (s.append r).log = s.log.append r := by
  cases r <;> simp [State.append]

@[simp] theorem State.setRole_link (s : State) (role : Role) (x : RoleRec) :
    (s.setRole role x).link = { s.link with roles := s.link.roles.modify role fun _ => x } := by
  unfold State.setRole; dsimp only; split <;> simp

@[simp] theorem State.settle_arb (s : State) (pre : State) :
    (pre.settle s).arb = { s.arb with fresh := s.arb.fresh && !recordsChanged pre s } := by
  unfold State.settle; simp

@[simp] theorem State.readCalen_pins (s : State) (c : Option Bool) :
    (s.readCalen c).pins = { s.pins with calen := c.getD s.pins.calen } := by
  cases c <;> rfl

/-! ### One of two, one of eight -/

@[simp] theorem Sides.get_modify_same {α : Type} (x : Sides α) (d : Side) (f : α → α) :
    (x.modify d f).get d = f (x.get d) := by cases d <;> rfl

theorem Sides.get_modify_ne {α : Type} (x : Sides α) {d e : Side} (f : α → α) (h : e ≠ d) :
    (x.modify d f).get e = x.get e := by cases d <;> cases e <;> first | rfl | exact absurd rfl h

@[simp] theorem Sides.get_modify_other {α : Type} (x : Sides α) (d : Side) (f : α → α) :
    (x.modify d f).get d.other = x.get d.other := by cases d <;> rfl

@[simp] theorem Ports.get_modify_same {α : Type} (x : Ports α) (p : Port) (f : α → α) :
    (x.modify p f).get p = f (x.get p) := by cases p <;> rfl

theorem Ports.get_modify_ne {α : Type} (x : Ports α) {p q : Port} (f : α → α) (h : q ≠ p) :
    (x.modify p f).get q = x.get q := by cases p <;> cases q <;> first | rfl | exact absurd rfl h

@[simp] theorem Ports.get_modify_other {α : Type} (x : Ports α) (p : Port) (f : α → α) :
    (x.modify p f).get p.other = x.get p.other := by cases p <;> rfl

@[simp] theorem Roles.get_modify_same {α : Type} (x : Roles α) (r : Role) (f : α → α) :
    (x.modify r f).get r = f (x.get r) := by cases r <;> rfl

theorem Roles.get_modify_ne {α : Type} (x : Roles α) {r q : Role} (f : α → α) (h : q ≠ r) :
    (x.modify r f).get q = x.get q := by cases r <;> cases q <;> first | rfl | exact absurd rfl h

@[simp] theorem Roles.get_map {α β : Type} (x : Roles α) (f : α → β) (r : Role) :
    (x.map f).get r = f (x.get r) := by cases r <;> rfl

@[simp] theorem Roles.get_all {α : Type} (a : α) (r : Role) : (Roles.all a).get r = a := by cases r <;> rfl

@[simp] theorem State.bay_modifyBay_same (s : State) (d : Side) (f : Bay → Bay) :
    (s.modifyBay d f).bay d = f (s.bay d) := by cases d <;> rfl

@[simp] theorem State.bay_modifyBay_other (s : State) (d : Side) (f : Bay → Bay) :
    (s.modifyBay d f).bay d.other = s.bay d.other := by cases d <;> rfl

@[simp] theorem State.port_modifyPort_same (s : State) (p : Port) (f : PortBlock → PortBlock) :
    (s.modifyPort p f).port p = f (s.port p) := by cases p <;> rfl

@[simp] theorem State.port_modifyPort_other (s : State) (p : Port) (f : PortBlock → PortBlock) :
    (s.modifyPort p f).port p.other = s.port p.other := by cases p <;> rfl

theorem State.bay_of_bays {s t : State} (h : s.bays = t.bays) (d : Side) : s.bay d = t.bay d := by
  unfold State.bay; rw [h]

theorem State.port_of_ports {s t : State} (h : s.ports = t.ports) (p : Port) : s.port p = t.port p := by
  unfold State.port; rw [h]

/-! ### Equal field by field -/

/-- Two states are equal when each field is. -/
theorem State.eq_of_fields {s t : State}
    (power : s.power = t.power)
    (pins : s.pins = t.pins)
    (clock : s.clock = t.clock)
    (resetRecord : s.resetRecord = t.resetRecord)
    (link : s.link = t.link)
    (tracker : s.tracker = t.tracker)
    (weigh : s.weigh = t.weigh)
    (cal : s.cal = t.cal)
    (bays : s.bays = t.bays)
    (trucks : s.trucks = t.trucks)
    (materials : s.materials = t.materials)
    (log : s.log = t.log)
    (shift : s.shift = t.shift)
    (supply : s.supply = t.supply)
    (arb : s.arb = t.arb)
    (ports : s.ports = t.ports)
    (openChoice : s.openChoice = t.openChoice)
    (pending : s.pending = t.pending) : s = t := by
  cases s; cases t; simp_all

end Sys2Proof.Machine
end

