-- ==== Sys2Proof/Laws/Ops.lean ====
section
/-! SUPPORT. What each shared operation can do, said once: the arbiter's turn, the grant of an item, the grant of a
request, and the step. A proof about a command cites these instead of unfolding them. -/

namespace Sys2Proof.Machine

/-! ### The arbiter's turn (R175) -/

/-- A request has its turn only when no item waits, it is at the head of its port's queue, and an answer place is
free. -/
theorem State.turn_request {s : State} {p : Port} {r : Request} (h : s.turn = some (.request p r)) :
    s.arb.items = [] ∧ (s.port p).queue.head? = some r ∧ (s.port p).answers.length < 4 := by
  unfold State.turn at h
  have ready_spec : ∀ (b : PortBlock) (q : Request), b.ready = some q →
      b.queue.head? = some q ∧ b.answers.length < 4 := by
    intro b q hq
    unfold PortBlock.ready at hq
    split at hq
    · exact ⟨hq, by assumption⟩
    · simp at hq
  split at h
  · simp at h
  · rename_i hi
    refine ⟨hi, ?_⟩
    split at h
    · rename_i q _ hq
      simp only [Option.some.injEq, Turn.request.injEq] at h
      obtain ⟨rfl, rfl⟩ := h
      exact ready_spec _ _ hq
    · rename_i q _ hq
      simp only [Option.some.injEq, Turn.request.injEq] at h
      obtain ⟨rfl, rfl⟩ := h
      exact ready_spec _ _ hq
    · simp at h

/-- When only one port qualifies, or it is the one not served last, its request has its turn. -/
theorem State.turn_of_ready {s : State} {p : Port} {r : Request} (hi : s.arb.items = [])
    (hr : (s.port p).ready = some r) (ho : (s.port p.other).ready = none ∨ s.arb.lastServed = p.other) :
    s.turn = some (.request p r) := by
  unfold State.turn
  rw [hi]
  have hoo : p.other.other = p := by cases p <;> rfl
  have hcase : s.arb.lastServed = p ∨ s.arb.lastServed = p.other := by
    cases p <;> cases s.arb.lastServed <;> simp [Port.other]
  rcases hcase with hl | hl
  · rcases ho with ho | ho
    · simp [hl, ho, hr]
    · exfalso; rw [hl] at ho; cases p <;> simp [Port.other] at ho
  · simp [hl, hoo, hr]

/-! ### The grant of an item -/

/-- A grant of an item that `work` carries out. -/
theorem grantItem_granted {work : Item → Option (State → State)} {s : State} {i : Item} {f : State → State}
    (hp : s.power = .running) (hi : s.arb.items.head? = some i) (hw : work i = some f) :
    grantItem work s = .next (s.settle (f s.dropItem)) := by
  unfold grantItem
  rw [if_pos hp]
  cases hl : s.arb.items with
  | nil => simp [hl] at hi
  | cons j rest =>
    simp only [hl, List.head?_cons, Option.some.injEq] at hi
    subst hi
    simp [hw]

/-- A property that the state has, and that every grant `work` can make gives, holds after the command. -/
theorem grantItem_keeps {P : State → Prop} {work : Item → Option (State → State)} {s : State} (h0 : P s)
    (h : ∀ i f, s.power = .running → s.arb.items.head? = some i → work i = some f → P (s.settle (f s.dropItem))) :
    ∃ t, grantItem work s = .next t ∧ P t := by
  unfold grantItem
  split
  · rename_i hp
    split
    · exact ⟨s, rfl, h0⟩
    · rename_i i rest hl
      split
      · exact ⟨s, rfl, h0⟩
      · rename_i f hw
        exact ⟨_, rfl, h i f hp (by simp [hl]) hw⟩
  · exact ⟨s, rfl, h0⟩

/-! ### The grant of a request (R176) -/

/-- The three ways a grant can end: DENIED, a wrong length, or the work of its rule. -/
theorem State.carryOut_cases (s : State) (k : ReqKind) (p : Port) (payload : List Byte)
    (work : List Byte → State → State × Reply) :
    (∃ n, denial k p s.pins.calen = some n ∧ s.carryOut k p payload work = (s, .refuse .denied n [])) ∨
    (denial k p s.pins.calen = none ∧ lengthFits k payload.length = false ∧
      s.carryOut k p payload work = (s, .range 0)) ∨
    (denial k p s.pins.calen = none ∧ lengthFits k payload.length = true ∧
      s.carryOut k p payload work = work payload s) := by
  unfold State.carryOut
  cases hd : denial k p s.pins.calen with
  | some n => exact .inl ⟨n, rfl, rfl⟩
  | none =>
    cases hl : lengthFits k payload.length with
    | true => exact .inr (.inr ⟨rfl, rfl, by simp⟩)
    | false => exact .inr (.inl ⟨rfl, rfl, by simp⟩)

/-- A grant of the request whose turn it is. -/
theorem grantRequest_granted {k : ReqKind} {p : Port} {calen : Option Bool}
    {work : List Byte → State → State × Reply} {s : State} {r : Request} (hp : s.power = .running)
    (ht : s.turn = some (.request p r)) (hk : r.kind = k) :
    grantRequest k p calen work s =
      .next ((s.settle (((s.dropRequest p).readCalen calen).carryOut k p r.payload work).1).answer p
        ⟨r.tag, (((s.dropRequest p).readCalen calen).carryOut k p r.payload work).2⟩) := by
  unfold grantRequest
  simp [hp, ht, hk]

/-- A property that the state has, that holds after a refusal, and that the work of the request gives, holds after
the command. -/
theorem grantRequest_keeps {P : State → Prop} {k : ReqKind} {p : Port} {calen : Option Bool}
    {work : List Byte → State → State × Reply} {s : State} (h0 : P s)
    (hrefuse : ∀ r a, s.power = .running → s.turn = some (.request p r) →
      P ((s.settle ((s.dropRequest p).readCalen calen)).answer p a))
    (hwork : ∀ r, s.power = .running → s.turn = some (.request p r) → r.kind = k →
      denial k p ((s.dropRequest p).readCalen calen).pins.calen = none → lengthFits k r.payload.length = true →
      P ((s.settle (work r.payload ((s.dropRequest p).readCalen calen)).1).answer p
        ⟨r.tag, (work r.payload ((s.dropRequest p).readCalen calen)).2⟩)) :
    ∃ t, grantRequest k p calen work s = .next t ∧ P t := by
  by_cases hp : s.power = .running
  · cases ht : s.turn with
    | none => exact ⟨s, by simp [grantRequest, hp, ht], h0⟩
    | some turn =>
      cases turn with
      | item i => exact ⟨s, by simp [grantRequest, hp, ht], h0⟩
      | request q r =>
        by_cases hq : q = p ∧ r.kind = k
        · obtain ⟨rfl, hk⟩ := hq
          refine ⟨_, grantRequest_granted hp ht hk, ?_⟩
          rcases State.carryOut_cases ((s.dropRequest q).readCalen calen) k q r.payload work with
            ⟨n, _, he⟩ | ⟨_, _, he⟩ | ⟨hd, hl, he⟩
          · rw [he]; exact hrefuse r _ hp ht
          · rw [he]; exact hrefuse r _ hp ht
          · rw [he]; exact hwork r hp ht hk hd hl
        · exact ⟨s, by simp [grantRequest, hp, ht, hq], h0⟩
  · exact ⟨s, by simp [grantRequest, hp], h0⟩

/-! ### Notices and the end of a grant -/

/-- What a raised notice does to the ports: each port it reaches takes it (R182). -/
theorem State.raise_port (s : State) (n : Notice) (p : Port) :
    (s.raise n).port p =
      if n = .node ∧ p = .cab then s.port p else (s.port p).modifyPacer fun pc => pc.raise n := by
  unfold State.raise
  by_cases h : n = .node
  · cases p
    · simp [h]; rfl
    · simp [h]
  · cases p <;> (simp [h]; rfl)

/-- The end of a grant changes nothing of a port but its pacer. -/
theorem State.port_settle (pre s : State) (p : Port) :
    (pre.settle s).port p = { s.port p with pacer := ((pre.settle s).port p).pacer } := by
  have one : ∀ (t : State) (n : Notice), (t.raise n).port p = { t.port p with pacer := ((t.raise n).port p).pacer } := by
    intro t n
    rw [State.raise_port]
    split <;> simp [PortBlock.modifyPacer]
  have two : ∀ (t : State) (d : Side),
      (pre.raiseBayChange d t).port p = { t.port p with pacer := ((pre.raiseBayChange d t).port p).pacer } := by
    intro t d
    unfold State.raiseBayChange
    split
    · exact one t _
    · simp
  have hs : (pre.settle s).port p = (pre.raiseBayChange .right (pre.raiseBayChange .left s)).port p := rfl
  rw [hs, two, two s]

/-- The end of a grant leaves what a port has queued, buffered and sent, its receiver and its discarded count. -/
theorem State.settle_queue (pre s : State) (p : Port) :
    ((pre.settle s).port p).queue = (s.port p).queue ∧ ((pre.settle s).port p).answers = (s.port p).answers ∧
      ((pre.settle s).port p).assembler = (s.port p).assembler ∧
      ((pre.settle s).port p).discarded = (s.port p).discarded ∧
      ((pre.settle s).port p).sent = (s.port p).sent ∧ ((pre.settle s).port p).out = (s.port p).out := by
  rw [State.port_settle]
  exact ⟨rfl, rfl, rfl, rfl, rfl, rfl⟩

/-- A grant that leaves bays, counters and log as they were ends as its work left it. -/
theorem State.settle_same {pre s : State} (hb : s.bays.bay = pre.bays.bay)
    (hc : s.shift.counters = pre.shift.counters) (hl : s.log.records = pre.log.records) : pre.settle s = s := by
  have hd : ∀ d, s.bay d = pre.bay d := by intro d; unfold State.bay; rw [hb]
  have hr : ∀ (d : Side) (t : State), t.bays = s.bays → pre.raiseBayChange d t = t := by
    intro d t ht
    have : t.bay d = pre.bay d := by rw [State.bay_of_bays ht, hd]
    unfold State.raiseBayChange
    simp [this]
  unfold State.settle
  rw [hr .left s rfl, hr .right s rfl]
  simp [recordsChanged, hb, hc, hl]

/-! ### The step -/

/-- A property that does not look at the queue, and that every command keeps, is kept by every step. -/
theorem step_keeps {P : State → Prop} (hq : ∀ s q, P s → P { s with pending := q })
    (hx : ∀ c s, P s → ∃ t, exec c s = .next t ∧ P t) {s t : State} (h : P s) (hs : step s = .next t) : P t := by
  unfold step at hs
  split at hs
  · simp only [Host.Outcome.next.injEq] at hs
    exact hs ▸ h
  · rename_i c rest _
    obtain ⟨u, hu, hP⟩ := hx c { s with pending := rest } (hq s rest h)
    rw [hu] at hs
    simp only [Host.Outcome.next.injEq] at hs
    exact hs ▸ hP

end Sys2Proof.Machine
end

