-- ==== Sys2Proof/Laws/Notices.lean ====
section
/-! SUPPORT. What a raised notice, the end of a grant and an answer leave: pending counts, sets, and everything else of
the ports. -/

namespace Sys2Proof.Machine

/-- Two kinds with one number are one kind. -/
theorem NoticeKind.num_inj {a b : NoticeKind} (h : a.num = b.num) : a = b := by
  revert h; cases a <;> cases b <;> decide

/-- A raised notice counts one more of its kind, saturating (R182). -/
theorem Pacer.count_raise (pc : Pacer) (n : Notice) (k : NoticeKind) :
    (pc.raise n).count k = if k = n.kind then min (pc.count k + 1) 255 else pc.count k := by
  have noted : ∀ q : Pacer, q.pending = (pc.note n).pending →
      q.count k = if k = n.kind then min (pc.count k + 1) 255 else pc.count k := by
    intro q hq
    have hn : (pc.note n).pending = pc.pending.set n.kind.num (satAdd 255 (pc.count n.kind) 1) := by
      unfold Pacer.note; cases n <;> rfl
    unfold Pacer.count
    rw [hq, hn]
    by_cases h : k = n.kind
    · subst h; simp [Pacer.count, satAdd]
    · have : n.kind.num.val ≠ k.num.val := fun e => h (NoticeKind.num_inj (Fin.ext e)).symm
      simp only [h, if_false, Fin.getElem_fin]
      rw [Vector.getElem_set_ne _ _ this]
  unfold Pacer.raise
  dsimp only
  split
  · exact noted _ rfl
  · exact noted _ rfl

/-- The pending counts of a port after a notice has been raised (R182). -/
theorem State.count_raise (s : State) (n : Notice) (p : Port) (k : NoticeKind) :
    ((s.raise n).port p).pacer.count k =
      if k = n.kind ∧ ¬(n = .node ∧ p = .cab) then min ((s.port p).pacer.count k + 1) 255
      else (s.port p).pacer.count k := by
  rw [State.raise_port]
  by_cases h : n = .node ∧ p = .cab
  · simp [h]
  · simp only [h, if_false, PortBlock.modifyPacer, not_false_iff, and_true]
    exact Pacer.count_raise _ _ _

/-- The pacer of a port after a notice has been raised (R182). -/
theorem State.pacer_raise (s : State) (n : Notice) (p : Port) :
    ((s.raise n).port p).pacer =
      if n = .node ∧ p = .cab then (s.port p).pacer else (s.port p).pacer.raise n := by
  rw [State.raise_port]
  split <;> rfl

/-- The bays that BAY names after a notice has been raised (R182). -/
theorem Pacer.bayBays_raise (pc : Pacer) (n : Notice) :
    (pc.raise n).bayBays = match n with
      | .bay d => pc.bayBays.modify d fun _ => true
      | _ => pc.bayBays := by
  cases n <;> unfold Pacer.raise Pacer.assert Pacer.note <;> dsimp only <;> split <;> rfl

/-- The bays that OVERLOAD names after a notice has been raised (R182). -/
theorem Pacer.overloadBays_raise (pc : Pacer) (n : Notice) :
    (pc.raise n).overloadBays = match n with
      | .overload d => pc.overloadBays.modify d fun _ => true
      | _ => pc.overloadBays := by
  cases n <;> unfold Pacer.raise Pacer.assert Pacer.note <;> dsimp only <;> split <;> rfl

/-- A raised notice changes nothing of a port but its pacer. -/
theorem State.port_raise (s : State) (n : Notice) (p : Port) :
    (s.raise n).port p = { s.port p with pacer := ((s.raise n).port p).pacer } := by
  rw [State.raise_port]; split <;> simp [PortBlock.modifyPacer]

/-- The end of a grant counts at most a BAY notice for each bay (R97). -/
theorem State.count_settle (pre s : State) (p : Port) (k : NoticeKind) (h : k ≠ .bay) :
    ((pre.settle s).port p).pacer.count k = (s.port p).pacer.count k := by
  have one : ∀ (t : State) (d : Side),
      ((pre.raiseBayChange d t).port p).pacer.count k = (t.port p).pacer.count k := by
    intro t d
    unfold State.raiseBayChange
    split
    · rw [State.count_raise]; simp [Notice.kind, h]
    · rfl
  have hs : (pre.settle s).port p = (pre.raiseBayChange .right (pre.raiseBayChange .left s)).port p := rfl
  rw [hs, one, one]

/-- A grant's end and its answer: only ports and the fresh flag differ from what the work left. -/
theorem State.answer_settle (pre w : State) (p : Port) (a : Answer) :
    (pre.settle w).answer p a =
      { w with ports := ((pre.settle w).answer p a).ports, arb := ((pre.settle w).answer p a).arb } := by
  apply State.eq_of_fields <;> simp

/-- A grant's end and its answer, at the port that asked. -/
theorem State.answer_settle_port (pre w : State) (p : Port) (a : Answer) :
    (((pre.settle w).answer p a).port p).queue = (w.port p).queue ∧
      (((pre.settle w).answer p a).port p).answers = (w.port p).answers ++ [a] ∧
      (((pre.settle w).answer p a).port p.other).queue = (w.port p.other).queue ∧
      (((pre.settle w).answer p a).port p.other).answers = (w.port p.other).answers := by
  have h := State.settle_queue pre w p
  have ho := State.settle_queue pre w p.other
  unfold State.answer
  simp [h, ho]

/-- The counts after a grant's end and its answer are those of the end. -/
theorem State.pacer_answer (s : State) (p q : Port) (a : Answer) :
    ((s.answer p a).port q).pacer = (s.port q).pacer := by
  unfold State.answer
  by_cases h : q = p
  · subst h; simp
  · have : q = p.other := by cases p <;> cases q <;> simp_all [Port.other]
    subst this; simp

end Sys2Proof.Machine
end

