-- ==== Sys2Proof/Laws/Grants.lean ====
section
/-! SUPPORT. What a grant comes to when the statements' words say that a request or an item has its turn: one lemma
for each way a grant can end. -/

namespace Sys2Proof.Machine

/-- The words of the statements, as the shared operations say them. -/
theorem State.dropRequest_eq_granted {s : State} {p : Port} {r : Request} {rest : List Request}
    (h : (s.port p).queue = r :: rest) : s.dropRequest p = s.granted p rest := by
  have hp : s.ports.modify p (fun b => { b with queue := b.queue.tail }) =
      s.ports.modify p (fun b => { b with queue := rest }) := by
    cases p <;> simp_all [Ports.modify, State.port, Ports.get]
  simp [State.dropRequest, State.granted, State.modifyPort, hp]

theorem State.answer_eq_answered (s : State) (p : Port) (r : Request) (x : Reply) :
    s.answer p ⟨r.tag, x⟩ = s.answered p r x.status x.payload := rfl

theorem State.readCalen_some (s : State) (level : Bool) : s.readCalen (some level) = s.strapped level := rfl

/-- An offered request has its turn. -/
theorem OffersRequest.turn {s : State} {p : Port} {r : Request} {rest : List Request}
    (h : OffersRequest s p r rest) : s.turn = some (.request p r) := by
  obtain ⟨_, hi, hq, ha, ho⟩ := h
  apply State.turn_of_ready hi
  · simp [PortBlock.ready, hq, ha]
  · rcases ho with ho | ho | ho
    · left; simp [PortBlock.ready, ho]
    · left; simp [PortBlock.ready, Nat.not_lt.mpr ho]
    · exact .inr ho

/-- The grant of an offered request, before its class is checked. -/
theorem OffersRequest.grant {s : State} {p : Port} {r : Request} {rest : List Request} {k : ReqKind}
    (h : OffersRequest s p r rest) (hk : r.kind = k) (calen : Option Bool)
    (work : List Byte → State → State × Reply) :
    grantRequest k p calen work s =
      .next ((s.settle (((s.granted p rest).readCalen calen).carryOut k p r.payload work).1).answer p
        ⟨r.tag, (((s.granted p rest).readCalen calen).carryOut k p r.payload work).2⟩) := by
  rw [grantRequest_granted h.1 h.turn hk, State.dropRequest_eq_granted h.2.2.1]

/-- The grant of an offered request whose class is allowed. -/
theorem Offers.grant {s : State} {p : Port} {r : Request} {rest : List Request} {k : ReqKind}
    (h : Offers s p k r rest) (calen : Option Bool) (work : List Byte → State → State × Reply)
    (hd : denial k p ((s.granted p rest).readCalen calen).pins.calen = none) :
    grantRequest k p calen work s =
      .next ((s.settle (work r.payload ((s.granted p rest).readCalen calen)).1).answer p
        ⟨r.tag, (work r.payload ((s.granted p rest).readCalen calen)).2⟩) := by
  rw [h.1.grant h.2.1]
  rcases State.carryOut_cases ((s.granted p rest).readCalen calen) k p r.payload work with
    ⟨n, hn, _⟩ | ⟨_, hl, _⟩ | ⟨_, _, he⟩
  · rw [hd] at hn; cases hn
  · rw [h.2.2] at hl; cases hl
  · rw [he]

/-- The grant of an offered request whose work leaves the bays, the counters and the log's records alone. -/
theorem Offers.grant_quiet {s : State} {p : Port} {r : Request} {rest : List Request} {k : ReqKind}
    (h : Offers s p k r rest) (calen : Option Bool) (work : List Byte → State → State × Reply)
    (hd : denial k p ((s.granted p rest).readCalen calen).pins.calen = none)
    (hb : (work r.payload ((s.granted p rest).readCalen calen)).1.bays.bay = s.bays.bay)
    (hc : (work r.payload ((s.granted p rest).readCalen calen)).1.shift.counters = s.shift.counters)
    (hl : (work r.payload ((s.granted p rest).readCalen calen)).1.log.records = s.log.records) :
    grantRequest k p calen work s =
      .next ((work r.payload ((s.granted p rest).readCalen calen)).1.answer p
        ⟨r.tag, (work r.payload ((s.granted p rest).readCalen calen)).2⟩) := by
  rw [h.grant calen work hd, State.settle_same hb hc hl]

/-- The same, from what the work answers. -/
theorem Offers.answers {s t : State} {p : Port} {r : Request} {rest : List Request} {k : ReqKind}
    {status : Status} {payload : List Byte} {work : List Byte → State → State × Reply} (h : Offers s p k r rest) (calen : Option Bool)
    (hd : denial k p ((s.granted p rest).readCalen calen).pins.calen = none)
    (hw : work r.payload ((s.granted p rest).readCalen calen) = (t, ⟨status, payload⟩)) (hb : t.bays.bay = s.bays.bay)
    (hc : t.shift.counters = s.shift.counters) (hl : t.log.records = s.log.records) :
    grantRequest k p calen work s = .next (t.answered p r status payload) := by
  rw [h.grant_quiet calen work hd (by rw [hw]; exact hb) (by rw [hw]; exact hc) (by rw [hw]; exact hl), hw]
  rfl

/-- The grant of the item in front. -/
theorem OffersItem.grant {s : State} {i : Item} {rest : List Item} {work : Item → Option (State → State)}
    {f : State → State} (h : OffersItem s i rest) (hw : work i = some f) :
    grantItem work s = .next (s.settle (f { s with arb := { s.arb with items := rest } })) := by
  rw [grantItem_granted h.1 (by rw [h.2]; rfl) hw]
  have : s.dropItem = { s with arb := { s.arb with items := rest } } := by simp [State.dropItem, h.2]
  rw [this]

/-- The end of a grant counts BAY once for each bay that the grant has changed, and names it, when the work itself has
raised no BAY (R97). -/
theorem State.settle_bayNotices {pre s : State}
    (hc : ∀ p, (s.port p).pacer.count .bay = (pre.port p).pacer.count .bay)
    (hb : ∀ p, (s.port p).pacer.bayBays = (pre.port p).pacer.bayBays) : bayNotices pre (pre.settle s) := by
  have bays : ∀ d, (pre.settle s).bay d = s.bay d := State.bay_of_bays (State.settle_bays s pre)
  have key : ∀ (t : State) (d : Side) (p : Port),
      ((pre.raiseBayChange d t).port p).pacer =
        if (pre.bay d).state ≠ (t.bay d).state ∨ (pre.bay d).load ≠ (t.bay d).load ∨ (pre.bay d).tag ≠ (t.bay d).tag
        then (t.port p).pacer.raise (.bay d) else (t.port p).pacer := by
    intro t d p
    unfold State.raiseBayChange
    split
    · rw [State.pacer_raise]; simp
    · rfl
  have left : ∀ d, (pre.raiseBayChange .left s).bay d = s.bay d := State.bay_of_bays (State.raiseBayChange_bays s pre .left)
  intro p
  have hp : ((pre.settle s).port p).pacer = ((pre.raiseBayChange .right (pre.raiseBayChange .left s)).port p).pacer := rfl
  simp only [hp, key, left, bays]
  constructor
  · by_cases l : (pre.bay .left).state ≠ (s.bay .left).state ∨ (pre.bay .left).load ≠ (s.bay .left).load ∨
        (pre.bay .left).tag ≠ (s.bay .left).tag <;>
      by_cases r : (pre.bay .right).state ≠ (s.bay .right).state ∨ (pre.bay .right).load ≠ (s.bay .right).load ∨
        (pre.bay .right).tag ≠ (s.bay .right).tag <;>
      simp only [l, r, if_true, if_false, decide_true, decide_false, Pacer.count_raise, Notice.kind, hc] <;> simp
    omega
  · intro d
    by_cases l : (pre.bay .left).state ≠ (s.bay .left).state ∨ (pre.bay .left).load ≠ (s.bay .left).load ∨
        (pre.bay .left).tag ≠ (s.bay .left).tag <;>
      by_cases r : (pre.bay .right).state ≠ (s.bay .right).state ∨ (pre.bay .right).load ≠ (s.bay .right).load ∨
        (pre.bay .right).tag ≠ (s.bay .right).tag <;>
      cases d <;> simp [l, r, Pacer.bayBays_raise, hb, Sides.modify, Sides.get]
end Sys2Proof.Machine
end

