-- ==== Sys2Proof/Laws/Ports.lean ====
section
/-! SUPPORT. What a port sends: the length of an answer frame, what a count of bytes leaves of an answer buffer, and what
sending does to a port, said once. -/

namespace Sys2Proof.Machine

/-- A number's bytes are as many as asked. -/
theorem be_length (w n : Nat) : (be w n).length = w := by
  induction w with
  | zero => rfl
  | succ w ih => simp [be, ih]

/-- The length of an answer frame. -/
theorem Answer.bytes_length (a : Answer) : a.bytes.length = a.size := by
  unfold Answer.bytes Answer.size coveredBytes
  simp [be_length]
  omega

/-- An answer frame is never empty. -/
theorem Answer.size_pos (a : Answer) : 0 < a.size := by
  unfold Answer.size
  omega

/-- What `k` bytes leave of an answer buffer: the answers at its end, whose bytes are the buffer's without the first
`k`; and of the oldest left fewer bytes have gone out than it has. -/
theorem leftAfter_spec (k : Nat) (as : List Answer) :
    ((leftAfter k as).1.flatMap Answer.bytes).drop (leftAfter k as).2 = (as.flatMap Answer.bytes).drop k ∧
      (∃ i, (leftAfter k as).1 = as.drop i) ∧
      (∀ a ∈ (leftAfter k as).1.head?, (leftAfter k as).2 < a.size) ∧
      ((leftAfter k as).1 = [] → (leftAfter k as).2 = 0) := by
  induction as generalizing k with
  | nil => simp [leftAfter]
  | cons a rest ih =>
    unfold leftAfter
    split
    · rename_i h
      exact ⟨rfl, ⟨0, rfl⟩, by simpa using h, by simp⟩
    · rename_i h
      obtain ⟨h1, ⟨i, h2⟩, h3, h4⟩ := ih (k - a.size)
      refine ⟨?_, ⟨i + 1, by simpa using h2⟩, h3, h4⟩
      have hk : k = a.bytes.length + (k - a.size) := by rw [Answer.bytes_length]; omega
      rw [h1, List.flatMap_cons]
      conv_rhs => rw [hk]
      rw [List.drop_append]
      simp [Answer.bytes_length]

/-- Exactly what is left of the oldest answer sends it, and the next one stands at its first byte. -/
theorem leftAfter_oldest (a : Answer) (rest : List Answer) : leftAfter a.size (a :: rest) = (rest, 0) := by
  unfold leftAfter
  simp only [Nat.lt_irrefl, if_false, Nat.sub_self]
  cases rest with
  | nil => rfl
  | cons b r => unfold leftAfter; simp [Answer.size_pos b]

/-- Everything that sending can do to a port. -/
theorem PortBlock.send_spec (b : PortBlock) (p : Port) (n : Nat) :
    b.send p n = { b with answers := (b.send p n).answers, sent := (b.send p n).sent, out := b.bytesOut p n } ∧
      (b.send p n).unsent = b.unsent.drop n ∧ (∃ i, (b.send p n).answers = b.answers.drop i) ∧
      (∀ a ∈ (b.send p n).answers.head?, (b.send p n).sent < a.size) ∧
      ((b.send p n).answers = [] → (b.send p n).sent = 0) := by
  obtain ⟨h1, h2, h3, h4⟩ := leftAfter_spec (b.sent + n) b.answers
  refine ⟨rfl, ?_, h2, h3, h4⟩
  unfold PortBlock.unsent PortBlock.send
  rw [List.drop_drop]
  exact h1

/-- Sending is what the statements say of it. -/
theorem PortBlock.send_sends (b : PortBlock) (p : Port) (n : Nat) : sends p n b (b.send p n) := by
  obtain ⟨h1, h2, h3, h4, h5⟩ := PortBlock.send_spec b p n
  refine ⟨h1, ?_, h3, h2, ?_⟩
  · cases p <;> rfl
  · cases h : (b.send p n).answers with
    | nil => exact h5 h
    | cons a rest =>
      have := h4 a (by simp [h])
      rwa [← Answer.bytes_length] at this

/-- Receiving is what the statements say of it. -/
theorem PortBlock.receive_receives (b : PortBlock) (p : Port) (n : Nat) : receives p n b (b.receive p n) := by
  cases p
  · exact ⟨fun _ => b.send_sends .cab n, fun h => by cases h⟩
  · exact ⟨fun h => (by cases h), fun _ => rfl⟩

/-- Sending leaves the receiver, the queue, the discarded count and the pacer of a port. -/
@[simp] theorem PortBlock.send_assembler (b : PortBlock) (p : Port) (n : Nat) :
    (b.send p n).assembler = b.assembler := rfl
@[simp] theorem PortBlock.send_queue (b : PortBlock) (p : Port) (n : Nat) : (b.send p n).queue = b.queue := rfl
@[simp] theorem PortBlock.send_discarded (b : PortBlock) (p : Port) (n : Nat) :
    (b.send p n).discarded = b.discarded := rfl
@[simp] theorem PortBlock.send_pacer (b : PortBlock) (p : Port) (n : Nat) : (b.send p n).pacer = b.pacer := rfl
@[simp] theorem PortBlock.send_out (b : PortBlock) (p : Port) (n : Nat) : (b.send p n).out = b.bytesOut p n := rfl

/-- Receiving on the Cab port sends as many bytes; on the Fleet port it sends none. -/
@[simp] theorem PortBlock.receive_cab (b : PortBlock) (n : Nat) : b.receive .cab n = b.send .cab n := rfl
@[simp] theorem PortBlock.receive_fleet (b : PortBlock) (n : Nat) : b.receive .fleet n = b := rfl
@[simp] theorem PortBlock.receive_assembler (b : PortBlock) (p : Port) (n : Nat) :
    (b.receive p n).assembler = b.assembler := by cases p <;> rfl

/-- A byte that goes out alone on the Cab port is the one that CAB_MISO offers: the next of the oldest answer, or the
filler. -/
theorem PortBlock.bytesOut_one (b : PortBlock) : b.bytesOut .cab 1 = [b.unsent.headD 0x00] := by
  unfold PortBlock.bytesOut
  cases b.unsent <;> simp

/-- The bytes that go out on the Cab port are as many as are clocked in. -/
theorem PortBlock.bytesOut_length (b : PortBlock) (n : Nat) : (b.bytesOut .cab n).length = n := by
  unfold PortBlock.bytesOut
  simp
  omega

end Sys2Proof.Machine
end

