-- ==== Sys2Proof/Laws/Sweeps.lean ====
section
/-! SUPPORT. What the end of a sweep comes to, by whichever command: the tracker takes the sweep's record, and its
outcomes and the sweep's tag events join the items that wait. -/

namespace Sys2Proof.Machine

/-- Before the record of a sweep is taken, its last transaction has changed only the link, with its roles kept, and,
when it served a slot, counted NODE (R3, R4, R15). -/
abbrev lastTransaction (s u : State) : Prop :=
  u = { s with link := u.link, ports := u.ports } ∧ u.link.roles = s.link.roles ∧
    (u.ports = s.ports ∨ u.ports = (s.raise .node).ports)

/-- What a served slot leaves. -/
theorem lastTransaction_raise {s v : State} (h : v = { s with link := v.link }) (hr : v.link.roles = s.link.roles) :
    lastTransaction s (v.raise .node) := by
  refine ⟨?_, by simpa using hr, .inr ?_⟩
  · apply State.eq_of_fields <;> simp <;> rw [h]
  · rw [h]; rfl

/-- The end of a served slot (R15). -/
theorem State.serveEnds_eq (s : State) (sw : Sweep) (i : Fin 2) (a : Access) (seen : Option NodeType)
    (x : AccessResult) : ∃ u, s.serveEnds sw i a seen x = u.endSweep sw ∧ lastTransaction s u := by
  unfold State.serveEnds
  cases seen <;> exact ⟨_, rfl, lastTransaction_raise rfl rfl⟩

/-- Every command that ends a sweep ends it after such a transaction (R11, R15). -/
theorem SweepEnds.exec {c : Instr} {s : State} {sw : Sweep} (h : SweepEnds c s sw) :
    ∃ u, Machine.exec c s = .next (u.endSweep sw) ∧ lastTransaction s u := by
  obtain ⟨hp, hs, hc⟩ := h
  cases c <;> simp only [endsLast, Bool.false_eq_true] at hc
  case probe reply =>
    simp only [decide_eq_true_eq] at hc
    obtain ⟨h1, h2, h3⟩ := hc
    simp only [Machine.exec, execProbe, hp, hs, h1, h2, if_true, and_self, State.probeEnds]
    cases reply.filter fun a => a.received s.link.probePtr <;>
      simp only [Link.toServe, State.modifyLink_link, Link.answered, Link.probeMissed, h3, Bool.false_eq_true,
        if_false] <;>
      exact ⟨_, rfl, rfl, rfl, .inl rfl⟩
  case nodeRead reply =>
    cases hv : s.serving with
    | none => simp [hv] at hc
    | some x =>
      obtain ⟨w, i, a⟩ := x
      have hw : w = sw := by
        unfold State.serving at hv
        rw [hs] at hv
        dsimp only at hv
        split at hv <;> [cases hv; split at hv] <;> simp_all
      simp only [hv, Option.map_some, beq_iff_eq, Option.some.injEq] at hc
      subst hw
      simp only [Machine.exec, execNodeRead, hp, hv, hc, if_true]
      split <;>
      · obtain ⟨u, hu, hl⟩ := State.serveEnds_eq s w i a _ _
        exact ⟨u, congrArg _ hu, hl⟩
  case nodeWrite reply =>
    cases hv : s.serving with
    | none => simp [hv] at hc
    | some x =>
      obtain ⟨w, i, a⟩ := x
      have hw : w = sw := by
        unfold State.serving at hv
        rw [hs] at hv
        dsimp only at hv
        split at hv <;> [cases hv; split at hv] <;> simp_all
      simp only [hv, Option.map_some, beq_iff_eq, Option.some.injEq] at hc
      subst hw
      simp only [Machine.exec, execNodeWrite, hp, hv, hc, if_true]
      split <;>
      · obtain ⟨u, hu, hl⟩ := State.serveEnds_eq s w i a _ _
        exact ⟨u, congrArg _ hu, hl⟩

/-- The state in which the record of a sweep is taken: the sweep is over and no item of its own waits. -/
def State.sweepOver (s : State) : State :=
  { s with link := { s.link with sweep := none }, arb := { s.arb with items := [] } }

/-- The end of a sweep is what its record does, with the record's outcomes and the sweep's tag events behind the items
that waited, each list in its own order (R12, R13). -/
theorem State.endSweep_eq (s : State) (sw : Sweep) :
    let w := s.sweepOver.takeRecord (sweepRecord s.link sw)
    let tags := sw.tags.map Item.tag
    ∃ k n, s.endSweep sw = { w with
      arb := { w.arb with items := s.arb.items ++ tags.take k ++ w.arb.items ++ tags.drop k }, openChoice := n } := by
  dsimp only
  unfold State.endSweep mergeItems State.sweepOver
  dsimp only
  split
  · exact ⟨0, (s.sweepOver.takeRecord (sweepRecord s.link sw)).openChoice, by simp [State.sweepOver]⟩
  · exact ⟨_, _, by rw [← List.append_assoc, ← List.append_assoc]⟩

/-! ### The steps of taking a record (R22) -/

/-- The words of the statements, as the tracker says them. -/
theorem usable_iff (r : SweepRecord) : (r.boom.usable && r.bucket.usable) = true ↔ usable r := by
  simp [RoleReading.usable, usable, inUse]

theorem aborts_iff (s : State) (r : SweepRecord) :
    (s.tracker.capture.isSome && newlyFaulty s.tracker.prevRecord r) = true ↔ aborts s r := by
  unfold newlyFaulty aborts
  cases s.tracker.prevRecord <;> simp [RoleReading.usable, RoleReading.faulty, inUse, lost, or_assoc]

/-- The three ways to take a record: it aborts nothing, or its abort comes before its steps, or after them (R22, R45;
notes/assumptions/8.md). -/
theorem State.takeRecord_cases (s : State) (r : SweepRecord) :
    let asked := { s with openChoice := s.openChoice + 1 }
    (¬aborts s r ∧ s.takeRecord r = (s.takeSteps r).remember r) ∨
      (aborts s r ∧ s.takeRecord r = (asked.abortCapture.takeSteps r).remember r) ∨
      (aborts s r ∧ s.takeRecord r = (asked.takeSteps r).abortCapture.remember r) := by
  unfold State.takeRecord
  dsimp only
  by_cases h : aborts s r
  · rw [if_pos ((aborts_iff s r).2 h)]
    split
    · exact .inr (.inl ⟨h, rfl⟩)
    · exact .inr (.inr ⟨h, rfl⟩)
  · rw [if_neg fun x => h ((aborts_iff s r).1 x)]
    exact .inl ⟨h, rfl⟩

/-- An abort of an armed capture empties the bins, disarms, and hands its outcome (R45). -/
theorem State.abortCapture_armed {s : State} {k : CaptureKind} (h : s.tracker.capture = some k) :
    s.abortCapture = { s with
      tracker := { s.tracker with capture := none }
      weigh := { s.weigh with bins := noForces }
      arb := { s.arb with items := s.arb.items ++ [.capture k none] } } := by
  unfold State.abortCapture
  rw [h]
  rfl

/-- The directing of a record changes the weighing unit alone (R28, R44). -/
theorem State.direct_eq (s : State) (armed : Bool) (rate : Option Int) (r : SweepRecord) :
    s.direct armed rate r = { s with weigh := (s.direct armed rate r).weigh } := by
  unfold State.direct State.weighingSweep State.modifyAcc
  split <;> [rfl; split <;> rfl; split <;> rfl; rfl; rfl; rfl; rfl]

/-- The previous boom after a record (R23, R25). -/
theorem State.recordBoom_eq (pre s : State) (r : SweepRecord) :
    pre.recordBoom r s = { s with tracker := { s.tracker with
      prevBoom := if inUse r.boom ∧ (usable r ∨ pre.tracker.cycle = .idle) then r.boom.value
        else s.tracker.prevBoom } } := by
  have hb : r.boom.usable = true ↔ inUse r.boom := by simp [RoleReading.usable, inUse]
  unfold State.recordBoom
  dsimp only
  by_cases h1 : inUse r.boom <;> by_cases h2 : usable r <;> by_cases h3 : pre.tracker.cycle = .idle <;>
    simp [← hb, ← usable_iff] at h1 h2 ⊢ <;> simp_all [State.modifyTracker]

end Sys2Proof.Machine
end

