-- ==== Sys2Proof/Tests/Slice0.lean ====
section
/-! SUPPORT. The model's own tests: ill-formed commands refused, the manual's worked figures, and for each statement
with hypotheses states that meet them, clause by clause. -/

namespace Sys2Proof.Tests

-- One test after another: run together, the kernel evaluations ask for more thread stacks than the check's limit allows.
set_option Elab.async false

open Sys2Proof.Machine

/-! ### Well-formed commands -/

/-- An answer that arrives in time from address 1. -/
def heard (type : NodeType) (status : NodeStatus) : NodeAnswer := ⟨100, true, 1, type, status⟩

theorem test_wf_tag_with_value : (Instr.readValue .tagL (some ⟨heard .tag .ok, 5, true, 9⟩)).wf = false := by decide
theorem test_wf_pressure_with_tag : (Instr.readValue .head (some ⟨heard .pressure .ok, 5, false, 9⟩)).wf = false := by
  decide
theorem test_wf_payload_481 : (Instr.frameArrival .cab ⟨0, 1, List.replicate 481 0, 0⟩).wf = false := by decide +kernel
theorem test_wf_length_in_range : (Instr.frameDiscard .cab (.length 2)).wf = false := by decide
theorem test_wf_cab_has_no_stop_bits : (Instr.frameDiscard .cab .brokenByte).wf = false := by decide
theorem test_wf_no_bytes_sent : (Instr.answerSent ⟨.fleet, 0⟩).wf = false := by decide
theorem test_wf_vsys_401 : (Instr.supplyMeasurement 401).wf = false := by decide
theorem test_wf_accepts : (Instr.supplyMeasurement 400).wf && (Instr.frameDiscard .fleet .brokenByte).wf &&
    (Instr.frameDiscard .cab (.length 483)).wf && (Instr.readValue .tagL (some ⟨heard .tag .ok, 0, true, 9⟩)).wf &&
    (Instr.frameArrival .cab ⟨0, 1, List.replicate 480 0, 0⟩).wf = true := by decide +kernel

/-! ### The manual's worked figures -/

/-- The check value of the CRC-16 of R169 over the digits 1 to 9. -/
theorem test_crc_check_value : crc16 [0x31, 0x32, 0x33, 0x34, 0x35, 0x36, 0x37, 0x38, 0x39] = 0x29B1 := by
  decide +kernel

/-- The curve and the sweep of chapter 3's worked case. -/
def workedCurve : Vector CurveBin 16 := ((Vector.replicate 16 ⟨0, 1336⟩).set 4 ⟨310000, 1300⟩).set 5 ⟨298000, 1340⟩
/-- A reading in OK. -/
def okAt (v : Int) : RoleReading := ⟨.ok, some v, false⟩
/-- The record of chapter 3's worked case. -/
def workedSweep : SweepRecord := ⟨0, okAt 18000, okAt 1200, okAt 1500, okAt 0, okAt (-300), okAt 0⟩

theorem test_worked_force : liftForce Profile.default workedSweep = 873868 := by decide +kernel
theorem test_worked_curve : curveAt workedCurve Profile.default 1200 = (305218, 1315) := by decide +kernel
theorem test_worked_mass : sampleMass workedCurve Profile.default workedSweep = 11410 := by decide +kernel
theorem test_worked_means : (meanOf 34245 3, meanOf 45647 4, meanOf 91251 8) = (11415, 11412, 11406) := by
  decide +kernel
theorem test_worked_fill : (fillOf 6400 1800 11371, fillOf 6400 1800 28629, fillOf 6400 0 5) = (98, 248, 255) := by
  decide +kernel
/-- Way 0 and then way 2 touched in a fresh set leave way 1 the tree's choice (R128). -/
theorem test_worked_touches :
    (fun t : TruckSet => (t.root, t.pairA, t.pairB, t.pairChoice t.root))
      ((State.reset.trucks[(0 : Fin 8)].touch 0).touch 2) = (false, true, true, 1) := by decide +kernel

/-! ### Small states -/

/-- What a command leaves. -/
def after (c : Instr) (s : State) : State :=
  match exec c s with
  | .next t => t
  | .fault _ => s
  | .refused _ => s

/-- A state in which one request waits, alone, with room for its answer. -/
def ask (s : State) (p : Port) (k : ReqKind) (payload : List Byte) : State :=
  { s with
    arb := { s.arb with items := [] }
    ports := (s.ports.modify p fun b => { b with queue := [⟨7, k, payload⟩], answers := [] }).modify p.other fun b =>
      { b with queue := [] } }

/-- The request has its turn, and the command answers this. -/
def answers (c : Port → Instr) (k : ReqKind) (p : Port) (payload : List Byte) (s : State) (status : Status)
    (figures : List Byte) : Bool :=
  decide (Offers (ask s p k payload) p k ⟨7, k, payload⟩ []) &&
    ((after (c p) (ask s p k payload)).port p).answers == [⟨7, ⟨status, figures⟩⟩]

/-- The same, with no word about the figures. -/
def succeeds (c : Port → Instr) (k : ReqKind) (p : Port) (payload : List Byte) (s : State) : Bool :=
  decide (Offers (ask s p k payload) p k ⟨7, k, payload⟩ []) &&
    ((after (c p) (ask s p k payload)).port p).answers.map (fun a => a.reply.status) == [.ok]

/-- A bay that holds a load. -/
def bayWith (load : Nat) (tag : Option Nat) (nets : List Nat) : Bay :=
  ({ Bay.afterReset Profile.default with
    load := load
    tag := tag
    opened := 3
    passes := nets.mapIdx fun i n => ⟨i + 1, n, 100, Flags.none, 50, 4, none⟩
    total := nets.sum }).restate

/-- A state with two given bays. -/
def withBays (left right : Bay) : State :=
  { State.reset with bays := { State.reset.bays with bay := ⟨left, right⟩, nextLoad := 10 } }

/-- A state with a given item in front of the arbiter. -/
def withItem (i : Item) (s : State) : State := { s with arb := { s.arb with items := [i, .pileDump 1] } }

/-- A role in OK. -/
def okRole (addr : Fin 16) (v : Option Int) : RoleRec := ⟨some addr, .ok, 0, 0, v⟩

/-- Roles in OK, with the boom and the bucket where they are given. -/
def rolesAt (boom bucket : Int) : Roles RoleRec :=
  ⟨okRole 1 (some 18000), okRole 2 (some 1200), okRole 3 (some boom), okRole 4 (some bucket), okRole 5 (some 0),
    okRole 6 (some 600), okRole 8 none, okRole 9 none⟩

/-- A sweep with these reads before it. -/
def reading (toRead : List Role) : Option Sweep := some ⟨5, toRead, none, Roles.all false, []⟩

/-- A state at the end of a sweep's probe position, with the boom and the bucket where they are given. -/
def sweepEnd (c : CycleState) (boom bucket : Int) : State :=
  { State.reset with
    link := { State.reset.link with roles := rolesAt boom bucket, sweep := reading [] }
    tracker := { State.reset.tracker with cycle := c, timer := 77 } }

/-- The hypotheses of the statements about a record: the command ends the sweep, in this cycle state, and its record
aborts an armed capture or not. -/
def endsWith (cmd : Instr) (s : State) (c : CycleState) (aborting : Bool) : Bool :=
  match s.link.sweep with
  | none => false
  | some sw =>
    decide (SweepEnds cmd s sw ∧ s.tracker.cycle = c) && decide (aborts s (sweepRecord s.link sw)) == aborting

/-- The same, of a probe whose record aborts nothing. -/
def recordMeets (s : State) (c : CycleState) : Bool := endsWith (.probe none) s c false

/-- What a probe that ends the sweep leaves. -/
def record (s : State) : State := after (.probe none) s

/-- The cycle state after a record. -/
def moves (c : CycleState) (boom bucket : Int) (c' : CycleState) : Bool :=
  recordMeets (sweepEnd c boom bucket) c && (record (sweepEnd c boom bucket)).tracker.cycle == c'

/-- A weighed window of eight samples. -/
def weighed : Accumulator := ⟨91251, 8, some 11366, some 11455, 0, false, false, false, false⟩

/-- A result to commit. -/
def result (net : Nat) : WindowResult := ⟨net, 98, Flags.none⟩

/-! ### The machine, resets, supply and clock -/

theorem test_StepTakesFrontCommand :
    (match step { State.reset with pending := [.cabCsNFall, .clockTick] } with
      | .next t => t.pending == [.clockTick] && t.pins.csLow
      | _ => false) &&
    (match step State.reset with
      | .next t => t == State.reset
      | _ => false) = true := by decide +kernel

/-- A grant out of its turn, and one in its turn. -/
theorem test_CommandsCompleteAndKeepQueue :
    ¬Instr.truckDump.canOccur State.reset ∧ after .truckDump State.reset = State.reset ∧
      Instr.pileDump.canOccur { State.reset with arb := { State.reset.arb with items := [.pileDump 1] } } :=
  ⟨fun h => absurd h.2 (by decide), by decide +kernel, rfl, rfl⟩

theorem test_PowerEventsGiveDefaults :
    let low := { State.reset with pins := { State.reset.pins with resetLow := true }, clock := 5 }
    (after .powerOnReset low).power == .held .powerOn && (after .powerOnReset { State.reset with clock := 5 }) == State.reset &&
      (after .powerCollapse low).power == .off = true := by decide +kernel

theorem test_HeldPartDoesNothing :
    ([Power.off, .held .pin, .held .powerOn].all fun w =>
      let s := { State.reset with power := w }
      after .sweepStart s == s && after (.syncByteReceived .fleet) s == s && after .pinReset s != s) = true := by
  decide +kernel

theorem test_PinResetClearsWorkAndKeepsRecords :
    let s := withBays (bayWith 4 (some 9) [100]) (bayWith 5 none [])
    let held := after .pinReset s
    let out := after .pinResetRelease { held with clock := 44 }
    held.power == .held .pin && out.power == .running && out.clock == 44 && out.bays.nextLoad == 10 &&
      (out.bay .left).state == .empty && out.resetRecord == ⟨.pin, 44⟩ &&
      (after .pinResetRelease { s with power := .held .powerOn }).bays.nextLoad == 1 = true := by decide +kernel

theorem test_ClockTickAdvancesClockAndCycleTimer :
    let s := { State.reset with tracker := { State.reset.tracker with cycle := .dig, timer := 65534 } }
    (after .clockTick s).tracker.timer == 65535 && (after .clockTick (after .clockTick s)).tracker.timer == 65535 &&
      (after .clockTick State.reset).tracker.timer == 0 && (after .clockTick { s with clock := 4294967295 }).clock == 0 &&
      (after .clockTick { s with power := .held .pin }).clock == 1 = true := by decide +kernel

theorem test_SupplyMeasurementIsJudged :
    let at' := fun (st : SupplyState) (low high v : Nat) =>
      (fun m : Supply => (m.state, m.lowCount, m.highCount))
        (after (.supplyMeasurement v)
          { State.reset with supply := ⟨st, low, high, 240, 240⟩ }).supply
    at' .normal 0 0 199 = (.normal, 1, 0) ∧ at' .normal 1 0 199 = (.normal, 2, 0) ∧
      at' .normal 2 0 199 = (.low, 0, 0) ∧ at' .normal 2 0 200 = (.normal, 0, 0) ∧
      at' .low 0 0 210 = (.low, 0, 1) ∧ at' .low 0 1 210 = (.low, 0, 2) ∧ at' .low 0 2 210 = (.normal, 0, 0) ∧
      at' .low 0 2 209 = (.low, 0, 0) := by decide +kernel

/-- An entry to LOW abandons the window of WEIGH and aborts an armed capture. -/
theorem test_SupplyLowReachesTheTracker :
    let s := { sweepEnd .weigh 1000 100 with supply := ⟨.normal, 2, 0, 240, 240⟩ }
    let armed := { s with tracker := { s.tracker with capture := some .empty } }
    (after (.supplyMeasurement 100) s).weigh.acc.abandoned &&
      (after (.supplyMeasurement 100) armed).arb.items == [.capture .empty none] &&
      (after (.supplyMeasurement 100) armed).tracker.capture == none = true := by decide +kernel

/-! ### The sensor link -/

theorem test_SweepStartBindsRolesAndReads :
    let s := { State.reset with cal := { State.reset.cal with
      profile := { Profile.default with binding := { Profile.defaultBinding with steer := none, boom := some 11 } } } }
    let t := after .sweepStart { s with link := { s.link with roles := rolesAt 0 0 } }
    t.link.sweep.map (fun w => w.toRead) = some [.head, .rod, .boom, .bucket, .pitch, .tagL, .tagR] ∧
      (t.link.roles.boom, t.link.roles.steer.state, t.link.roles.head.state) = (RoleRec.placed (some 11), .unbound, .ok) ∧
      t.ports.cab.pacer.sensorRoles = { Roles.all false with boom := true } := by decide +kernel

theorem test_AnswersAreReceivedAndJudged :
    let read := fun (a : NodeAnswer) =>
      (after (.readValue .boom (some ⟨a, 7000, false, 0⟩))
        { sweepEnd .idle 0 0 with link := { (sweepEnd .idle 0 0).link with sweep := reading [.boom] } }).link.roles.boom
    (read ⟨100, true, 3, .angle, .ok⟩).lastGood = some 6000 ∧ (read ⟨101, true, 3, .angle, .ok⟩).state = .hold ∧
      (read ⟨100, false, 3, .angle, .ok⟩).state = .hold ∧ (read ⟨100, true, 4, .angle, .ok⟩).state = .hold ∧
      (read ⟨100, true, 3, .pressure, .ok⟩).state = .fault ∧ (read ⟨100, true, 3, .angle, .fault⟩).state = .fault ∧
      judge .boom ⟨⟨0, true, 3, .angle, .overrange⟩, 750, false, 0⟩ = .good (some 6000) true ∧
      judge .boom ⟨⟨0, true, 3, .angle, .overrange⟩, 749, false, 0⟩ = .good (some (-4500)) true ∧
      judge .boom ⟨⟨0, true, 3, .angle, .ok⟩, 6000, false, 0⟩ = .good (some 6000) false ∧
      judge .boom ⟨⟨0, true, 3, .angle, .ok⟩, -4501, false, 0⟩ = .good (some (-4500)) true ∧
      judge .tagR ⟨⟨0, true, 3, .tag, .ok⟩, 0, false, 0⟩ = .good none false := by decide +kernel

theorem test_RoleReadMovesRole :
    let move := fun (r : RoleRec) (reply : Option ReadAnswer) =>
      let s := sweepEnd .idle 0 0
      (after (.readValue .boom reply) { s with
        link := { s.link with roles := { s.link.roles with boom := r }, sweep := reading [.boom] } }).link.roles.boom
    let good : Option ReadAnswer := some ⟨⟨9, true, 3, .angle, .ok⟩, 44, false, 0⟩
    let bad : Option ReadAnswer := some ⟨⟨9, true, 3, .angle, .fault⟩, 44, false, 0⟩
    let fault : RoleRec := ⟨some 3, .fault, 0, 0, none⟩
    let hold : RoleRec := ⟨some 3, .hold, 1, 0, some 5⟩
    move (okRole 3 (some 5)) good = okRole 3 (some 44) ∧ move (okRole 3 (some 5)) none = hold ∧
      move (okRole 3 (some 5)) bad = fault ∧ move hold none = { hold with misses := 2 } ∧
      move { hold with misses := 2 } none = fault ∧ move hold good = okRole 3 (some 44) ∧ move hold bad = fault ∧
      move fault good = { fault with recoveries := 1 } ∧
      move { fault with recoveries := 3 } good = { fault with recoveries := 4 } ∧
      move { fault with recoveries := 4 } good = okRole 3 (some 44) ∧ move { fault with recoveries := 4 } none = fault ∧
      move { fault with recoveries := 4 } bad = fault := by decide +kernel

/-- The marker of a good answer out of range, and none after a good answer in range or a miss. -/
theorem test_RoleReadMovesRole_marker :
    let marked := fun (reply : Option ReadAnswer) =>
      let s := sweepEnd .idle 0 0
      (after (.readValue .boom reply) { s with link := { s.link with
        sweep := some ⟨5, [.boom], none, { Roles.all false with boom := true, head := true }, []⟩ } }).link.sweep.map
          fun w => (w.marked.boom, w.marked.head)
    marked (some ⟨⟨9, true, 3, .angle, .ok⟩, 6001, false, 0⟩) = some (true, true) ∧
      marked (some ⟨⟨9, true, 3, .angle, .ok⟩, 6000, false, 0⟩) = some (false, true) ∧
      marked none = some (false, true) := by decide +kernel

theorem test_TagReadBecomesTagEvent :
    let read := fun (held : Bool) (tag : BitVec 24) =>
      let s := sweepEnd .idle 0 0
      let t := after (.readValue .tagL (some ⟨⟨9, true, 8, .tag, .ok⟩, 0, held, tag⟩))
        { s with link := { s.link with sweep := reading [.tagL] } }
      (t.link.sweep.map (fun w => w.tags), t.link.zeroTags)
    read true 9 = (some [⟨.left, 9⟩], 0) ∧ read true 0 = (some [], 1) ∧ read false 9 = (some [], 0) := by
  decide +kernel

theorem test_ProbeUpdatesPresenceAndServesSlot :
    let s := sweepEnd .idle 0 0
    let at15 := { s with link := { s.link with probePtr := 15, presence := s.link.presence.set 15 ⟨true, some .tag, 2⟩ } }
    let armed : Slot := .armed ⟨1, 2, .read, 3⟩
    let slots := fun a b => { s with link := { s.link with slots := #v[a, b] } }
    let served := fun (u : State) => (u.link.sweep.map fun w => w.slot, u.link.lastServed)
    (record at15).link.presence[15] = ⟨false, none, 0⟩ ∧ (record at15).link.probePtr = 0 ∧
      (record s).link.presence[0] = ⟨false, none, 1⟩ ∧
      (after (.probe (some ⟨9, true, 0, .angle, .ok⟩)) s).link.presence[0] = ⟨true, some .angle, 0⟩ ∧
      served (record (slots armed armed)) = (some (some 0), 0) ∧
      served (record (slots .free armed)) = (some (some 1), 1) ∧
      served (record (slots .free .free)) = (none, 1) := by decide +kernel

theorem test_NodeAccessIsServed :
    let s := sweepEnd .idle 0 0
    let at' := fun (dir : Direction) => { s with link := { s.link with
      slots := #v[.armed ⟨1, 2, dir, 3⟩, .free], sweep := some ⟨5, [], some 0, Roles.all false, []⟩ } }
    (after (.nodeRead (some ⟨heard .tag .ok, 44⟩)) (at' .read)).link.slots[0] =
        .done ⟨1, 2, .read, 3⟩ (.ack .ok .tag (some 44)) ∧
      (after (.nodeRead none) (at' .read)).link.slots[0] = .done ⟨1, 2, .read, 3⟩ .noack ∧
      (after (.nodeWrite (some (heard .tag .ok))) (at' .write)).link.slots[0] =
        .done ⟨1, 2, .write, 3⟩ (.ack .ok .tag none) ∧
      (after (.nodeWrite none) (at' .write)).link.slots[0] = .done ⟨1, 2, .write, 3⟩ .noack ∧
      (after (.nodeWrite none) (at' .write)).ports.fleet.pacer.count .node = 1 := by decide +kernel

theorem test_NodeAccessRequestsArmAndFreeSlots :
    let slots := fun a b => { State.reset with link := { State.reset.link with slots := #v[a, b] } }
    let x : Access := ⟨15, 63, .write, 0x0102⟩
    let ask := answers .nodeAccess .nodeAccess .fleet
    let get := answers .nodeResult .nodeResult .fleet
    ask [16, 0, 0, 0, 0] State.reset .range [1] && ask [15, 64, 0, 0, 0] State.reset .range [2] &&
      ask [15, 63, 2, 0, 0] State.reset .range [3] && ask [15, 63, 1, 1, 2] State.reset .accepted [0] &&
      ask [15, 63, 0, 1, 2] (slots (.armed x) .free) .accepted [1] &&
      ask [0, 0, 0, 0, 0] (slots (.armed x) (.done x .noack)) .busy [2] && get [2] State.reset .range [1] &&
      get [1] State.reset .state [0x10] && get [0] (slots (.armed x) .free) .state [0x11] &&
      get [1] (slots .free (.done x .noack)) .ok [15, 63, 1, 1, 2, 1] &&
      get [1] (slots .free (.done x (.ack .ok .incline none))) .ok [15, 63, 1, 1, 2, 0, 0, 2, 0] &&
      get [1] (slots .free (.done { x with dir := .read } (.ack .fault .tag (some 0x0304)))) .ok
        [15, 63, 0, 1, 2, 0, 2, 3, 1, 3, 4] = true := by decide +kernel

/-! ### The load cycle -/

theorem test_RecordMovesCycleState :
    moves .idle (-2501) 0 .dig && moves .idle (-2500) 0 .idle && moves .dig (-2500) 0 .lift &&
      moves .dig (-2501) 0 .dig && moves .lift 500 0 .weigh && moves .lift (-2501) 0 .dig && moves .lift 499 0 .lift &&
      moves .weigh 499 0 .lift && moves .weigh 2499 0 .weigh && moves .weigh 2500 0 .carry && moves .carry 499 0 .lift &&
      moves .carry 500 0 .carry && moves .ret (-2501) 0 .dig && moves .ret (-2500) 0 .ret && moves .check 2500 0 .ret &&
      moves .check 2499 0 .check && moves .check 499 0 .ret && moves .carry 4000 (-2500) .ret &&
      moves .check 600 (-2500) .ret && moves .idle (-4000) (-2500) .dig = true := by decide +kernel

/-- The clauses of the same statement that ask for more of the tracker. -/
theorem test_RecordMovesCycleState_modes :
    let s := sweepEnd .weigh 3500 0
    let armed := { s with tracker := { s.tracker with capture := some .empty } }
    let atHi := { armed with link := { armed.link with roles := rolesAt 2500 0 } }
    let zero := { s with tracker := { s.tracker with zeroPending := true }, weigh := { s.weigh with acc := weighed } }
    let back := { sweepEnd .ret 500 0 with
      tracker := { (sweepEnd .ret 500 0).tracker with residuePending := true, prevBoom := some 499 } }
    let lost := { s with link := { s.link with roles := { s.link.roles with bucket := ⟨some 4, .fault, 0, 0, none⟩ } } }
    recordMeets armed .weigh && (record armed).tracker.cycle == .ret && (record armed).tracker.capture == none &&
      (record armed).arb.items == [.capture .empty (some s.weigh.bins)] && recordMeets atHi .weigh &&
      (record atHi).tracker.cycle == .weigh && recordMeets zero .weigh && (record zero).tracker.cycle == .ret &&
      recordMeets back .ret && (record back).tracker.cycle == .check && recordMeets lost .weigh &&
      (record lost).tracker.cycle == .idle = true := by decide +kernel

/-- Its clauses about the outcomes, the previous boom and the timer. -/
theorem test_RecordMovesCycleState_outcomes :
    let back := sweepEnd .carry 499 0
    let held := { back with tracker := { back.tracker with held := some (result 900), overload := ⟨true, true⟩ } }
    let check := fun (samples : Nat) =>
      let u := sweepEnd .check 2500 0
      { u with
        tracker := { u.tracker with dumpRef := some ⟨.left, 4, 2⟩, residuePending := true }
        weigh := { u.weigh with acc := { weighed with count := samples } } }
    let dig := record (sweepEnd .ret (-2501) 0)
    recordMeets held .carry && (record held).arb.items == [.reweigh] && (record held).tracker.overload == ⟨false, false⟩ &&
      (record back).arb.items == [] && recordMeets (check 8) .check &&
      (record (check 8)).arb.items == [.residue 11406 ⟨.left, 4, 2⟩] && (record (check 5)).arb.items == [] &&
      !(record (check 5)).tracker.residuePending && dig.tracker.timer == 0 && dig.tracker.prevBoom == some (-2501) &&
      (record back).tracker.timer == 77 && (record (sweepEnd .carry 499 (-2500))).tracker.residuePending == false = true := by
  decide +kernel

/-- The same statement at a sweep that holds tags and ends in a node access. -/
theorem test_RecordMovesCycleState_served :
    let at' := fun (dir : Direction) =>
      let s := sweepEnd .dig (-2500) 0
      { s with
        link := { s.link with
          slots := #v[.armed ⟨1, 2, dir, 3⟩, .free]
          sweep := some ⟨5, [], some 0, Roles.all false, [⟨.left, 9⟩, ⟨.right, 17⟩]⟩ }
        arb := { s.arb with items := [.reweigh] } }
    let waits := [Item.reweigh, .tag ⟨.left, 9⟩, .tag ⟨.right, 17⟩]
    endsWith (.nodeRead none) (at' .read) .dig false && endsWith (.nodeWrite none) (at' .write) .dig false &&
      (after (.nodeRead none) (at' .read)).arb.items == waits && (after (.nodeWrite none) (at' .write)).arb.items == waits &&
      (after (.nodeWrite none) (at' .write)).tracker.cycle == .lift = true := by decide +kernel

/-- A record that aborts an armed capture: HEAD was in HOLD and is in FAULT. What it leaves rests on a free value. -/
theorem test_RecordMovesCycleState_aborts :
    let s := sweepEnd .weigh 1000 0
    let before := sweepRecord s.link ⟨0, [], none, Roles.all false, []⟩
    let armed := { s with
      link := { s.link with roles := { s.link.roles with head := ⟨some 1, .fault, 0, 0, none⟩ } }
      tracker := { s.tracker with
        capture := some .empty, prevRecord := some { before with head := ⟨.hold, some 5, false⟩ } } }
    let dumping := { armed with
      link := { armed.link with roles := { armed.link.roles with bucket := okRole 4 (some (-2500)) } } }
    let lost := { armed with
      link := { armed.link with roles := { armed.link.roles with bucket := ⟨some 4, .fault, 0, 0, none⟩ } } }
    endsWith (.probe none) armed .weigh true && endsWith (.probe none) dumping .weigh true &&
      endsWith (.probe none) lost .weigh true = true := by decide +kernel

theorem test_DumpHandsItsOutcome :
    let s := sweepEnd .carry 3500 (-2500)
    let held := { s with tracker := { s.tracker with held := some (result 900) } }
    let low := { held with link := { held.link with roles := rolesAt 3499 (-2500) } }
    let lost := { s with link := { s.link with roles := { s.link.roles with boom := ⟨some 3, .fault, 0, 0, none⟩ } } }
    recordMeets held .carry && (record held).arb.items == [.truckDump (result 900) 77 (.side .left) 0] &&
      recordMeets low .carry && (record low).arb.items == [.pileDump 77] &&
      recordMeets s .carry && (record s).arb.items == [.pileDump 77] &&
      recordMeets (sweepEnd .lift 0 (-2500)) .lift &&
      (record (sweepEnd .lift 0 (-2500))).arb.items == [.pileDump 77] &&
      recordMeets lost .carry && (record lost).arb.items == [.lostCycle] &&
      ((record held).tracker.dumpNo, (record held).tracker.returnOf) == (1, some 0) &&
      ((record low).tracker.dumpNo, (record low).tracker.returnOf) == (0, none) = true := by decide +kernel

theorem test_WindowEndsInResult :
    let s := sweepEnd .weigh 2500 0
    let full := { s with weigh := { s.weigh with acc := weighed, zeroTrim := 35 } }
    let zero := fun u : State => { u with tracker := { u.tracker with zeroPending := true } }
    let holding := fun u : State => { u with tracker := { u.tracker with held := some (result 900) } }
    let out := fun u : State => (record u).tracker
    recordMeets full .weigh && (out full).held.map (fun w => w.net) == some 11371 &&
      (out s).held.map (fun w => w.flags.unweighed) == some true &&
      (out (holding full)).held.map (fun w => (w.net, w.flags.reweighed)) == some (11371, true) &&
      (out (holding s)).held.map (fun w => (w.net, w.flags.reweighed)) == some (900, true) &&
      recordMeets (zero full) .weigh && (out (zero full)).lastZero == some ⟨11406, false⟩ &&
      (out (zero s)).zeroPending && (out (zero s)).cycle == .carry = true := by decide +kernel

/-- A weighed window that would take the left bay past its maximum: its flag, and one notice that names it. -/
theorem test_WindowEndsInResult_overload :
    let s := sweepEnd .weigh 2500 0
    let t := record { s with
      weigh := { s.weigh with acc := weighed }
      bays := { s.bays with bay := ⟨{ bayWith 4 none [] with max := 11405 }, { bayWith 5 none [] with max := 11406 }⟩ } }
    t.tracker.overload == ⟨true, false⟩ && t.ports.cab.pacer.count .overload == 1 &&
      t.ports.fleet.pacer.overloadBays == ⟨true, false⟩ = true := by decide +kernel

/-- A weighing sweep that is taken, skipped for want of a rate, abandoned by a lost HEAD, and past 255 samples; a capture
sweep into bin 4, and into a bin that holds 255 forces. -/
theorem test_WeighingArithmeticRounds_feeding :
    let s := fun (prev : Option Int) (acc : Accumulator) (capture : Option CaptureKind) (forces : Nat) =>
      let u := sweepEnd .weigh 1000 0
      { u with
        tracker := { u.tracker with prevBoom := prev, capture := capture }
        weigh := { u.weigh with acc := acc, bins := Vector.replicate 16 ⟨7, forces⟩ } }
    let acc := fun u : State => (fun a : Accumulator => (a.count, a.skipped, a.abandoned, a.slow)) (record u).weigh.acc
    let bin := fun u : State => ((record u).weigh.bins[(4 : Fin 16)], (record u).weigh.bins[(5 : Fin 16)])
    let lost := fun u : State =>
      { u with link := { u.link with roles := { u.link.roles with head := ⟨some 1, .fault, 0, 0, none⟩ } } }
    let full := { weighed with count := 255 }
    recordMeets (s (some 940) weighed none 0) .weigh && acc (s (some 940) weighed none 0) == (9, 0, false, false) &&
      (record (s (some 940) weighed none 0)).weigh.acc.sum == 91251 + 17814 &&
      acc (s none weighed none 0) == (8, 1, false, false) && acc (lost (s (some 940) weighed none 0)) == (8, 0, true, false) &&
      acc (s (some 940) full none 0) == (255, 0, false, true) && acc (s (some 940) weighed (some .empty) 0) == (8, 0, false, false) &&
      recordMeets (s (some 940) weighed (some .empty) 0) .weigh &&
      bin (s (some 940) weighed (some .empty) 0) == (⟨873868 + 7, 1⟩, ⟨7, 0⟩) &&
      bin (s (some 940) weighed (some .empty) 255) == (⟨7, 255⟩, ⟨7, 255⟩) = true := by decide +kernel

/-! ### Outcomes and tag events -/

theorem test_TruckDumpCommitsPass :
    let dump := withItem (.truckDump (result 900) 50 .active 0)
    let nets := fun u : State => (after .truckDump u).bays.bay.left.passes.map fun p => p.net
    let s := withBays (bayWith 0 none []) (bayWith 0 none [])
    decide (OffersItem (dump s) (.truckDump (result 900) 50 .active 0) [.pileDump 1]) && nets (dump s) == [900] &&
      (after .truckDump (dump s)).bays.bay.left.load == 10 &&
      nets (dump (withBays (bayWith 4 none (List.replicate 11 5)) (bayWith 0 none []))) ==
        List.replicate 11 5 ++ [900] &&
      nets (dump (withBays (bayWith 4 none (List.replicate 12 5)) (bayWith 0 none []))) ==
        List.replicate 11 5 ++ [905] = true := by decide +kernel

theorem test_OutcomesMoveTheirCounters :
    (after .pileDump (withItem (.pileDump 50) State.reset)).shift.counters = { Counters.zero with
        cycles := 1, pileDumps := 1, cycleTimeSum := 50 } ∧
      (after .reweigh (withItem .reweigh State.reset)).shift.counters = { Counters.zero with reweighs := 1 } ∧
      (after .lostCycle (withItem .lostCycle State.reset)).shift.counters = { Counters.zero with lostCycles := 1 } := by
  decide +kernel

theorem test_ResidueIsAppliedOrDeclined :
    let s := withBays (bayWith 4 none [100, 900]) (bayWith 0 none [])
    let out := fun (x load : Nat) => (after .residue (withItem (.residue x ⟨.left, load, 2⟩) s)).bays
    (out 180 4).bay.left.passes.map (fun p => (p.net, p.residue)) = [(100, none), (720, some 180)] ∧
      (out 180 4).residueReport = some ⟨180, ⟨.left, 4, 2⟩, 180, true⟩ ∧ (out 1000 4).bay.left.total = 100 ∧
      (out 180 3).residueReport = some ⟨180, ⟨.left, 3, 2⟩, 0, false⟩ := by decide +kernel

theorem test_ZeroOutcomeSetsTrim :
    (after .zero (withItem (.zero ⟨-1500, true⟩) State.reset)).weigh.zeroTrim = -1500 ∧
      (after .zero (withItem (.zero ⟨-1501, false⟩) State.reset)).weigh.zeroTrim = 0 := by decide +kernel

theorem test_CaptureOutcomeStagesBins :
    let out := fun (k : CaptureKind) (b : CaptureBin) =>
      (after .capture (withItem (.capture k (some (Vector.replicate 16 b))) State.reset)).cal.staging[3]
    out .empty ⟨2000, 2⟩ = ⟨1000, 1336, true, false⟩ ∧ out .empty ⟨2000, 1⟩ = ⟨0, 1336, false, false⟩ ∧
      out (.load 500) ⟨2, 2⟩ = ⟨0, 65535, false, true⟩ ∧ out (.load 500) ⟨0, 2⟩ = ⟨0, 1336, false, false⟩ ∧
      (after .capture (withItem (.capture .empty none) State.reset)).cal.report = some ⟨.empty, none⟩ := by
  decide +kernel

theorem test_TagEventIsCrossReadOrArrival :
    let arrive := fun (tag : Nat) (l r : Bay) => after .tagEvent (withItem (.tag ⟨.left, tag⟩) (withBays l r))
    let none' := bayWith 0 none []
    (arrive 9 none' (bayWith 5 (some 9) [])).bays.crossReads = 1 ∧
      (arrive 9 none' none').bays.bay.left.load = 10 ∧
      (arrive 9 (bayWith 4 (some 9) [100]) none').bays.bay.left = bayWith 4 (some 9) [100] ∧
      ((arrive 9 (bayWith 4 (some 17) []) none').bays.bay.left.tag, (arrive 9 (bayWith 4 none [100]) none').bays.bay.left.tag)
        = (some 9, some 9) ∧
      (arrive 9 (bayWith 4 (some 17) [100]) (bayWith 3 none [7])).log.loadNumbers = [4] ∧
      (arrive 9 (bayWith 4 (some 17) [100]) (bayWith 3 none [7])).bays.bay.right.load = 10 ∧
      (arrive 9 (bayWith 4 (some 17) [100]) (bayWith 3 none [7])).bays.bay.left.load = 11 := by decide +kernel

/-- A NEW_TRUCK close logs and counts LOGGED; a truck the table has no way for takes that of the load beside it. -/
theorem test_TagEventIsCrossReadOrArrival_close_and_reference :
    let arrive := fun (l r : Bay) =>
      let s := withBays l r
      let set : TruckSet :=
        ⟨Vector.ofFn fun w => ⟨true, false, 17 + 8 * w.val, 1000, 1000, 0, 0, 0, none⟩, false, false, false⟩
      after .tagEvent (withItem (.tag ⟨.left, 9⟩) { s with trucks := s.trucks.set 1 set })
    let beside := { bayWith 5 (some 17) [] with ref := some ⟨1, 0⟩ }
    let t := arrive (bayWith 0 none []) beside
    let u := arrive (bayWith 4 (some 33) [100]) (bayWith 0 none [])
    (t.bays.bay.left.ref, t.bays.bay.right) = (some ⟨1, 0⟩, { beside with ref := none }) ∧
      (u.log.records.length, u.log.unread, u.ports.cab.pacer.count .logged, u.ports.cab.pacer.count .bay) = (1, ⟨1, 1⟩, 1, 1) := by
  decide +kernel

/-! ### Ports -/

/-- A Fleet frame with its check word. -/
def frame (kind : Byte) (payload : List Byte) : Frame := ⟨7, kind, payload, crc16 (coveredBytes 7 kind payload)⟩

/-- The Fleet port with so many requests queued and answers buffered, in the middle of a frame. -/
def fleetWith (queued buffered : Nat) : State :=
  { State.reset with ports := State.reset.ports.modify .fleet fun b => { b with
    assembler := .assembling 0
    queue := List.replicate queued ⟨1, .viewLive, []⟩
    answers := List.replicate buffered ⟨1, .ok []⟩ } }

theorem test_FrameArrivalIsChecked :
    let arrive := fun (f : Frame) (queued buffered : Nat) =>
      let b := (after (.frameArrival .fleet f) (fleetWith queued buffered)).ports.fleet
      (b.queue.length, b.answers.getLast?.map (fun a => a.reply.status), b.discarded)
    arrive (frame 1 []) 0 0 = (1, none, 0) ∧ arrive (frame 1 []) 3 0 = (4, none, 0) ∧
      arrive (frame 1 []) 4 0 = (4, some .busy, 1) ∧ arrive (frame 0x0F []) 0 0 = (0, some .unknown, 1) ∧
      arrive { frame 1 [] with check := 0 } 0 3 = (0, some .frame, 1) ∧
      arrive { frame 1 [] with check := 0 } 0 4 = (0, some .ok, 1) := by decide +kernel

/-- The Cab port within a chip-select period, with these answers, so many bytes of the oldest sent, and this receiver. -/
def cabWith (a : Assembler) (answers : List Answer) (sent : Nat) : State :=
  { State.reset with
    pins := { State.reset.pins with csLow := true }
    ports := State.reset.ports.modify .cab fun b => { b with assembler := a, answers := answers, sent := sent } }

theorem test_FrameArrivalIsChecked_cab :
    let b := (after (.frameArrival .cab (frame 1 [])) (cabWith (.assembling 2) [⟨1, .ok []⟩] 5)).ports.cab
    b.out.length = 4 ∧ b.out.drop 2 = [0, 0] ∧ b.answers = [] ∧ b.queue.length = 1 ∧ b.assembler = .hunting := by
  decide +kernel

/-- Every way in which a receiver begins, gathers and ends a frame. -/
theorem test_ReceiversAndSendersMove_receive :
    let s := fleetWith 0 2
    let cab := cabWith (.assembling 1) [⟨1, .ok []⟩] 0
    (after (.frameDiscard .fleet .brokenByte) s).ports.fleet.discarded = 1 ∧
      (after (.frameDiscard .fleet (.length 1)) s).ports.fleet.assembler = .hunting ∧
      (after (.frameDiscard .cab (.length 483)) cab).ports.cab.sent = 1 ∧
      (after (.frameArrival .cab ⟨0, 1, List.replicate 481 0, 0⟩) cab).ports.cab.discarded = 1 ∧
      (after .frameGapTimeout s).ports.fleet.discarded = 1 ∧
      (after (.syncByteReceived .fleet) State.reset).ports.fleet.assembler = .assembling 0 ∧
      (after (.syncByteReceived .cab) (cabWith .hunting [⟨1, .ok []⟩] 0)).ports.cab.out = [0xC3] ∧
      (after .cabCsNRise cab).ports.cab.discarded = 1 ∧ (after .cabCsNRise cab).pins.csLow = false ∧
      (after .cabCsNFall State.reset).pins.csLow = true := by decide +kernel

/-- An answer part-way out when the period ends is resumed in the next, and fillers follow the last one (R171). -/
theorem test_ReceiversAndSendersMove_send :
    let a : Answer := ⟨1, .ok [9]⟩
    let first := after (.answerSent ⟨.cab, 6⟩) (cabWith .hunting [a] 0)
    let between := after .cabCsNRise first
    let second := after .cabCsNFall between
    let last := after (.answerSent ⟨.cab, 4⟩) second
    first.ports.cab.out = a.bytes.take 6 ∧ first.ports.cab.answers = [a] ∧ between.cabMiso = none ∧
      second.cabMiso = a.bytes[6]? ∧ last.ports.cab.out = a.bytes.drop 6 ++ [0, 0] ∧ last.ports.cab.answers = [] ∧
      last.cabMiso = some 0 ∧ (after (.answerSent ⟨.cab, 3⟩) (cabWith (.assembling 483) [] 0)).ports.cab.assembler = .assembling 486 ∧
      (after (.answerSent ⟨.cab, 8⟩) (cabWith .hunting [a] 0)).ports.cab.answers = [] ∧
      (after (.answerSent ⟨.fleet, 9⟩) (fleetWith 0 2)).ports.fleet.sent = 2 ∧
      after (.answerSent ⟨.fleet, 15⟩) (fleetWith 0 2) = fleetWith 0 2 := by decide +kernel

/-- A pacer of the Cab port, with this count of PASS. -/
def paced (count : Nat) (line : Bool) (timer : Option Nat) (s : State) : State :=
  { s with ports := s.ports.modify .cab fun b => { b with pacer := { b.pacer with
    pending := b.pacer.pending.set 0 count, line := line, timer := timer } } }

theorem test_PaceTimerExpiryDrivesLine :
    let out := fun (count : Nat) (line : Bool) =>
      (fun pc : Pacer => (pc.line, pc.timer))
        (after (.paceTimerExpiry .cab) (paced count line (some 10) State.reset)).ports.cab.pacer
    out 1 true = (true, none) ∧ out 1 false = (true, some 10) ∧ out 0 false = (false, none) := by decide +kernel

/-! ### Requests -/

theorem test_ClassAndLengthAreCheckedFirst :
    let get := fun (c : Instr) (k : ReqKind) (p : Port) (payload : List Byte) =>
      let s := ask State.reset p k payload
      (decide (OffersRequest s p ⟨7, k, payload⟩ []), ((after c s).port p).answers.map fun a => (a.reply.status, a.reply.payload))
    get (.setTime .cab) .setTime .cab [] = (true, [(.denied, [1])]) ∧
      get (.setTime .fleet) .setTime .fleet [1, 2, 3] = (true, [(.range, [0])]) ∧
      get (.stageFill .cab false) .stageFill .cab [] = (true, [(.denied, [2])]) ∧
      get (.stageFill .cab true) .stageFill .cab [1] = (true, [(.range, [0])]) ∧
      get (.viewPart .cab false) .viewPart .cab [1] = (true, [(.range, [0])]) := by decide +kernel

theorem test_PicturesChangeNothing :
    ([(Instr.viewLive, ReqKind.viewLive), (Instr.viewMaterial, .viewMaterial), (Instr.viewCounters, .viewCounters),
        (Instr.viewProfile, .viewProfile), (Instr.takeSnapshot, .takeSnapshot), (fun p => Instr.viewPart p true, .viewPart)].all
      fun x => succeeds x.1 x.2 .cab [] State.reset) &&
    succeeds .viewBay .viewBay .cab [0] State.reset && succeeds .viewBay .viewBay .cab [1] State.reset &&
    answers .viewBay .viewBay .cab [2] State.reset .range [1] &&
    succeeds .viewTruck .viewTruck .cab [0, 0, 0, 1] State.reset &&
    answers .viewTruck .viewTruck .cab [0, 0, 0, 0] State.reset .range [2] &&
    answers .viewTruck .viewTruck .cab [1, 7, 3, 0] State.reset .ok [0, 0, 0, 0] &&
    answers .viewTruck .viewTruck .cab [1, 8, 3, 0] State.reset .range [2] &&
    answers .viewTruck .viewTruck .cab [1, 7, 4, 0] State.reset .range [3] &&
    answers .viewTruck .viewTruck .cab [1, 7, 3, 1] State.reset .range [4] &&
    answers .viewTruck .viewTruck .cab [2, 7, 3, 0] State.reset .range [1] &&
    succeeds .viewCurve .viewCurve .cab [3, 0] State.reset && succeeds .viewCurve .viewCurve .cab [3, 1] State.reset &&
    answers .viewCurve .viewCurve .cab [3, 2] State.reset .range [2] &&
    answers .viewCurve .viewCurve .cab [4, 0] State.reset .range [1] = true := by decide +kernel

/-- The accumulator's flags end the VIEW_LIVE answer (notes/assumptions/36.md). -/
theorem test_PicturesChangeNothing_live_flags :
    let flags := fun a : Accumulator =>
      ({ State.reset with weigh := { State.reset.weigh with acc := a } }).liveFigures.getLast?
    (flags weighed, flags { weighed with sat := true }, flags { weighed with nopitch := true, slow := true }) =
      (some 0, some 1, some 6) := by decide +kernel

theorem test_NextRecordReadsOldestUnread :
    let x : ShiftRecord := ⟨3, 0, 0, .cab, Counters.zero, 240⟩
    let s := { State.reset with log := ⟨[.shift x, .shift { x with number := 4 }], ⟨2, 0⟩, ⟨5, 6⟩⟩ }
    answers .nextRecord .nextRecord .cab [] s .ok (1 :: x.bytes ++ [1, 0, 5]) &&
      answers .nextRecord .nextRecord .fleet [] s .ok [0, 0, 0, 6] = true := by decide +kernel

theorem test_ReportsZeroWhatTheyReport :
    let s := paced 3 true none { State.reset with
      link := { State.reset.link with zeroTags := 4 }
      ports := State.reset.ports.modify .cab fun b => { b with discarded := 5 } }
    let t := fun (c : Port → Instr) (k : ReqKind) => after (c .cab) (ask s .cab k [])
    (t .viewPort .viewPort).ports.cab.discarded = 0 ∧ (t .viewNodes .viewNodes).link.zeroTags = 0 ∧
      (t .collectNotices .collectNotices).ports.cab.pacer.line = false ∧
      (t .collectNotices .collectNotices).ports.cab.pacer.count .pass = 0 ∧
      succeeds .viewPort .viewPort .cab [] s ∧ succeeds .viewNodes .viewNodes .cab [] s ∧
      succeeds .collectNotices .collectNotices .cab [] s := by decide +kernel

theorem test_SetNoticesMovesEnablesAndLine :
    let out := fun (count : Nat) (line : Bool) (timer : Option Nat) (payload : List Byte) =>
      (fun pc : Pacer => (pc.line, pc.timer, pc.interval))
        (after (.setNotices .cab) (ask (paced count line timer State.reset) .cab .setNotices payload)).ports.cab.pacer
    answers .setNotices .setNotices .cab [0x10, 0x00, 5] State.reset .range [1] = true ∧
      answers .setNotices .setNotices .cab [0x0F, 0xFF, 255] State.reset .ok [0x0F, 0xFF, 200] = true ∧
      out 1 true none [0, 1, 5] = (true, none, 5) ∧ out 1 true none [0, 2, 5] = (false, none, 5) ∧
      out 1 false none [0, 1, 200] = (true, some 200, 200) ∧ out 1 false none [0, 1, 0] = (true, none, 0) ∧
      out 1 false (some 9) [0, 1, 5] = (false, some 9, 5) ∧ out 0 false none [0, 1, 5] = (false, none, 5) := by
  decide +kernel

theorem test_OneFieldRequestsChangeOneField :
    let zeroing := fun (c : CycleState) (pending : Bool) (capture : Option CaptureKind) => { State.reset with
      tracker := { State.reset.tracker with cycle := c, zeroPending := pending, capture := capture } }
    answers .selectBay .selectBay .cab [0] State.reset .ok [] && answers .selectBay .selectBay .cab [1] State.reset .ok [] &&
      answers .selectBay .selectBay .cab [2] State.reset .range [1] &&
      answers .setTime .setTime .fleet [255, 255, 255, 255] { State.reset with clock := 258 } .ok [0, 0, 1, 2] &&
      answers .cancelZero .cancelZero .cab [] State.reset .ok [] &&
      answers .zeroBucket .zeroBucket .cab [] (zeroing .ret true none) .busy [3] &&
      answers .zeroBucket .zeroBucket .cab [] (zeroing .ret false (some .empty)) .busy [4] &&
      answers .zeroBucket .zeroBucket .cab [] (zeroing .weigh false none) .state [3] &&
      answers .zeroBucket .zeroBucket .cab [] (zeroing .check false none) .state [6] &&
      answers .zeroBucket .zeroBucket .cab [] (zeroing .ret false none) .accepted [] = true := by decide +kernel

theorem test_AssignTruckActsAsArrival :
    let s := withBays (bayWith 4 (some 17) [100]) (bayWith 5 (some 9) [])
    let ask := answers .assignTruck .assignTruck .cab
    ask [2, 0, 0, 9, 0, 0, 0, 4] s .range [1] && ask [0, 0, 0, 0, 0, 0, 0, 4] s .range [2] &&
      ask [0, 0, 0, 1, 0, 0, 0, 3] s .stale [0x22] && ask [0, 0, 0, 9, 0, 0, 0, 4] s .state [0x21] &&
      ask [0, 0, 0, 17, 0, 0, 0, 4] s .ok [] && ask [0, 0, 0, 1, 0, 0, 0, 4] s .ok [0, 0, 0, 10, 1] &&
      ask [0, 255, 255, 255, 0, 0, 0, 0] State.reset .ok [0, 0, 0, 1, 1] = true := by decide +kernel

theorem test_CloseLoadLogsOrCancels :
    let s := withBays (bayWith 4 (some 17) [100]) (bayWith 3 (some 9) [])
    let ask := answers .closeLoad .closeLoad .cab
    ask [2, 0, 0, 0, 4] s .range [1] && ask [0, 0, 0, 0, 5] s .stale [0x22] &&
      ask [0, 0, 0, 0, 0] State.reset .stale [0x20] && ask [1, 0, 0, 0, 3] s .ok [0] &&
      ask [0, 0, 0, 0, 4] s .ok [1, 0, 0, 100] = true := by decide +kernel

theorem test_SetLoadTargetRecomputesState :
    let s := withBays (bayWith 4 (some 17) [1000]) (bayWith 3 (some 9) [])
    let ask := answers .setLoadTarget .setLoadTarget .cab
    ask [2, 0, 0, 0, 4, 3, 232, 3, 232] s .range [1] && ask [0, 0, 0, 0, 4, 3, 231, 3, 232] s .range [2] &&
      ask [0, 0, 0, 0, 4, 3, 233, 3, 232] s .range [3] && ask [0, 0, 0, 0, 5, 3, 232, 3, 232] s .stale [0x22] &&
      ask [0, 0, 0, 0, 4, 3, 232, 3, 232] s .ok [3] && ask [0, 0, 0, 0, 4, 3, 233, 3, 233] s .ok [2] = true := by
  decide +kernel

theorem test_EndShiftLogsAndBeginsAnew :
    let s := { State.reset with shift := { State.reset.shift with number := 65535 } }
    answers .endShift .endShift .fleet [0, 1] s .stale [0x80, 255, 255] &&
      answers .endShift .endShift .fleet [255, 255] s .ok [0, 1] &&
      answers .endShift .endShift .fleet [0, 1] State.reset .ok [0, 2] = true := by decide +kernel

/-- An append to a full log of which one port has read nothing and the other all but three. -/
theorem test_EndShiftLogsAndBeginsAnew_full_log :
    let x : LogRecord := .shift ⟨3, 0, 0, .cab, Counters.zero, 240⟩
    let s := { State.reset with log := ⟨List.replicate 64 x, ⟨64, 3⟩, ⟨65535, 6⟩⟩ }
    let t := after (.endShift .cab) (ask s .cab .endShift [0, 1])
    (t.log.records.length, t.log.unread, t.log.missed) = (64, ⟨64, 4⟩, ⟨65535, 6⟩) ∧
      t.log.records.getLast? = some (.shift ⟨1, 0, 0, .cab, Counters.zero, 400⟩) := by decide +kernel

/-- A SHIFT record that another command finds in the log and leaves there. -/
theorem test_EndShiftLogsAndBeginsAnew_record_kept :
    let s := after (.endShift .cab) (ask State.reset .cab .endShift [0, 1])
    (match exec .clockTick s with
    | .next t => t.log.records == s.log.records &&
        t.log.records == [.shift ⟨1, 0, 0, .cab, Counters.zero, 400⟩]
    | _ => false) = true := by decide +kernel

/-- A part with work in it, whose snapshot the tests restore. -/
def worked : State :=
  { withBays (bayWith 4 (some 17) [100, 200]) (bayWith 5 (some 9) []) with
    clock := 5000
    shift := ⟨22, 7, 231, { Counters.zero with cycles := 3, truckPasses := 2, pileDumps := 1 }⟩
    weigh := { State.reset.weigh with zeroTrim := -35 }
    arb := { State.reset.arb with fresh := false } }

set_option maxRecDepth 100000 in
theorem test_RestoreTakesCheckedRecord :
    let x := worked.snapshot
    let stale := { State.reset with arb := { State.reset.arb with fresh := false } }
    let ask := answers .restoreSnapshot .restoreSnapshot .cab
    ask x stale .state [0x40] && ask (3 :: x.drop 1) State.reset .invalid [1] &&
      ask (x.set 20 9) State.reset .invalid [2] && ask x State.reset .ok [0, 0, 19, 136, 0, 0] &&
      ask x { State.reset with clock := 5001 } .ok [0, 0, 19, 137, 0, 0] = true := by decide +kernel

theorem test_TruckRequestsWriteAndDrop :
    let ask := answers .writeTruck .writeTruck .fleet
    let drop := answers .dropTruck .dropTruck .fleet
    let listed := after (.writeTruck .fleet)
      (Tests.ask State.reset .fleet .writeTruck [0, 0, 9, 3, 232, 3, 232, 15, 1, 255])
    let pinned : TruckSet :=
      ⟨Vector.ofFn fun w => ⟨true, true, 9 + 8 * w.val, 1000, 1000, 0, 0, 0, none⟩, false, false, false⟩
    let full := { listed with trucks := listed.trucks.set 1 pinned }
    ask [0, 0, 0, 3, 232, 3, 232, 15, 1, 255] State.reset .range [1] &&
      ask [0, 0, 9, 3, 231, 3, 232, 15, 1, 255] State.reset .range [2] &&
      ask [0, 0, 9, 3, 233, 3, 232, 15, 1, 255] State.reset .range [3] &&
      ask [0, 0, 9, 3, 232, 3, 232, 16, 1, 255] State.reset .range [4] &&
      ask [0, 0, 9, 3, 232, 3, 232, 15, 2, 255] State.reset .range [5] &&
      ask [0, 0, 9, 3, 232, 3, 232, 15, 1, 4] State.reset .range [6] &&
      ask [0, 0, 9, 3, 232, 3, 232, 15, 1, 3] State.reset .ok [1, 3, 1, 0] &&
      ask [0, 0, 9, 3, 232, 3, 232, 15, 0, 3] listed .ok [1, 0, 0] &&
      ask [0, 0, 41, 3, 232, 3, 232, 15, 0, 255] full .full [1] &&
      ask [0, 0, 41, 3, 232, 3, 232, 15, 0, 2] full .ok [1, 2, 1, 1, 0, 0, 25] &&
      drop [0, 0, 0] listed .range [1] && drop [0, 0, 9] listed .ok [1, 1, 0] && drop [0, 0, 17] listed .ok [0] = true := by
  decide +kernel

theorem test_WriteMaterialKeepsDefaultDense :
    let ask := fun (code : Byte) (density : List Byte) (first : Byte) =>
      answers .writeMaterial .writeMaterial .fleet ([code] ++ density ++ first :: List.replicate 7 0x41) State.reset
    ask 16 [7, 8] 0x41 .range [1] && ask 15 [1, 243] 0x41 .range [2] && ask 15 [13, 173] 0x41 .range [2] &&
      ask 15 [13, 172] 0x1F .range [3] && ask 15 [13, 172] 0x7F .range [3] && ask 0 [0, 0] 0x41 .range [2] &&
      ask 15 [0, 0] 0x7E .ok [] && ask 0 [1, 244] 0x20 .ok [] &&
      answers .writeMaterial .writeMaterial .cab (List.replicate 11 0x41) State.reset .denied [1] = true := by decide +kernel

/-- One bin of a STAGE_PIECE payload. -/
def pieceBin (force span : Int) : List Byte := beInt 4 force ++ beInt 2 span

theorem test_StagingRequestsStageBins :
    let piece := fun (k : Byte) (bins : List (List Byte)) (st : Status) (figures : List Byte) =>
      answers (fun p => .stagePiece p true) .stagePiece .cab (k :: bins.flatten) State.reset st figures
    let good := pieceBin (-2621400) 65535
    piece 4 [good, good, good, good] .range [1] && piece 3 [pieceBin 2621401 1, good, good, good] .range [2] &&
      piece 3 [good, pieceBin 0 0, good, good] .range [5] && piece 3 [good, good, good, pieceBin (-2621401) 0] .range [8] &&
      piece 3 [good, good, good, pieceBin 2621400 0] .range [9] && piece 3 [good, good, good, good] .ok [] &&
      answers (fun p => .stageFill p true) .stageFill .cab [] State.reset .ok [16, 16] = true := by decide +kernel

theorem test_CaptureRequestsArmAndDisarm :
    let s := fun (c : CycleState) (pending : Bool) (capture : Option CaptureKind) => { State.reset with
      tracker := { State.reset.tracker with
        cycle := c, zeroPending := pending, capture := capture, held := some (result 900), overload := ⟨true, false⟩ } }
    let ask := answers (fun p => .startCapture p true) .startCapture .cab
    let stop := answers (fun p => .abortCapture p true) .abortCapture .cab []
    let out := after (.startCapture .cab true) (Tests.ask (s .carry false none) .cab .startCapture [0, 0, 0])
    ask [2, 0, 0] State.reset .range [1] && ask [1, 1, 243] State.reset .range [2] &&
      ask [1, 117, 49] State.reset .range [2] && ask [1, 1, 244] (s .ret true none) .busy [3] &&
      ask [0, 0, 0] (s .ret false (some .empty)) .busy [4] && ask [0, 0, 0] (s .weigh false none) .state [3] &&
      ask [0, 0, 0] (s .check false none) .state [6] && ask [1, 117, 48] (s .ret false none) .accepted [] &&
      (out.tracker.held == none && out.tracker.overload == ⟨false, false⟩ && out.tracker.capture == some .empty) &&
      stop (s .ret false (some .empty)) .ok [1] && stop (s .ret false none) .ok [0] = true := by decide +kernel

theorem test_InstallCurveCopiesStaging :
    let staged := fun (generation : Nat) (capture : Option CaptureKind) (c : CycleState) => { State.reset with
      cal := { State.reset.cal with staging := Vector.replicate 16 ⟨5, 6, true, true⟩, generation := generation }
      tracker := { State.reset.tracker with capture := capture, cycle := c } }
    let gap := { State.reset with cal := { State.reset.cal with
      staging := (Vector.replicate 16 ⟨5, 6, true, true⟩).set 15 ⟨5, 6, true, false⟩ } }
    let ask := answers (fun p => .installCurve p true) .installCurve .cab []
    ask State.reset .state [0x30] && ask gap .state [0x3F] && ask (staged 0 (some .empty) .ret) .busy [4] &&
      ask (staged 0 none .weigh) .busy [5] && ask (staged 0 none .check) .busy [5] && ask (staged 0 none .ret) .ok [0, 1] &&
      ask (staged 65535 none .ret) .ok [0, 1] = true := by decide +kernel

theorem test_SetProfileReplacesCheckedProfile :
    let s := fun (capture : Option CaptureKind) (c : CycleState) => { State.reset with
      tracker := { State.reset.tracker with capture := capture, cycle := c } }
    let f := Profile.default.bytes
    let ask := answers (fun p => .setProfile p true) .setProfile .cab
    ask (f.set 0 11) State.reset .range [1] && ask (f.set 44 9) State.reset .ok [] &&
      ask (f.set 44 8) State.reset .range [30] && ask (f.set 37 16) State.reset .range [23] &&
      ask (f.set 31 1) State.reset .range [19] && ask f (s (some .empty) .ret) .busy [4] &&
      ask f (s none .weigh) .busy [5] && ask f State.reset .ok [] = true := by decide +kernel

/-! ### Laws, frames and the snapshot -/

/-- The laws of the bays hold in a worked part, so that what is claimed under them is not empty. -/
theorem test_laws_of_worked :
    PortLaw worked ∧ AttentionLaw worked ∧ FiguresLaw worked ∧ NumberLaw worked ∧ TruckLaw worked ∧ LogLaw worked ∧
      CounterLaw worked ∧ FreshLaw worked ∧ CurveLaw worked ∧ ZeroTrimLaw worked ∧ ProfileLaw worked ∧ LinkLaw worked ∧
      AccumulatorLaw worked ∧ TrackerLaw worked ∧ SupplyLaw worked ∧ worked.bays.nextLoad + 2 ≤ max32 ∧
      worked.shift.counters.truckPasses + worked.shift.counters.pileDumps ≤ max32 := by
  refine ⟨?_, ?_, ?_, ?_, ?_, ?_, ?_, ?_, ?_, ?_, ?_, ?_, ?_, ?_, ?_, ?_, ?_⟩ <;> decide +kernel

theorem test_BayLaw_of_worked : BayLaw worked := by
  refine ⟨?_, ?_, ?_, ?_, ?_, ?_, ?_, ?_, ?_⟩
  all_goals decide +kernel

/-- A step from a state that keeps the laws: the premises of the statements about steps. -/
theorem test_step_of_worked :
    (match step { worked with pending := [.clockTick] } with
      | .next t => t.clock == 5001
      | _ => false) = true := by decide +kernel

theorem test_EachBlockHasItsWriters :
    Instr.clockTick.resets = false ∧ Instr.clockTick.writesPins = false ∧ Instr.clockTick.writesLink = false ∧
      Instr.tagEvent.writesClock = false ∧ Instr.tagEvent.writesWindow = false ∧
      (after .tagEvent (withItem (.tag ⟨.left, 9⟩) State.reset)).clock = 0 := by decide +kernel

end Sys2Proof.Tests
end

section
/-! SUPPORT. What the commands leave alone. The operations of a grant keep the power state, the reset record, the sensor
link, the free-value counter and the queue; the taking of a record changes the tracker, the weighing unit, the arbiter's
items, the pacers and the free-value counter alone. One lemma for each operation, in the order of the model. -/

namespace Sys2Proof.Machine

/-! ### What the operations of a grant keep -/

/-- The power state, the reset record, the sensor link, the free-value counter and the queue are as they were. -/
abbrev undisturbed (s t : State) : Prop :=
  t.power = s.power ∧ t.resetRecord = s.resetRecord ∧ t.link = s.link ∧ t.openChoice = s.openChoice ∧
    t.pending = s.pending

theorem undisturbed.refl (s : State) : undisturbed s s := ⟨rfl, rfl, rfl, rfl, rfl⟩

theorem undisturbed.trans {s t u : State} (h : undisturbed s t) (h' : undisturbed t u) : undisturbed s u := by
  obtain ⟨p, r, l, o, q⟩ := h
  obtain ⟨p', r', l', o', q'⟩ := h'
  exact ⟨p'.trans p, r'.trans r, l'.trans l, o'.trans o, q'.trans q⟩

@[simp] theorem State.loseRef_undisturbed (s : State) (ref : TruckRef) : undisturbed s (s.loseRef ref) :=
  ⟨rfl, rfl, rfl, rfl, rfl⟩

@[simp] theorem State.place_undisturbed (s : State) (ref : TruckRef) (e : TruckEntry) :
    undisturbed s (s.place ref e) := by
  unfold State.place
  split <;> simp [undisturbed]

@[simp] theorem State.identify_undisturbed (s : State) (d : Side) (tag : Nat) :
    undisturbed s (s.identify d tag) := by
  unfold State.identify
  dsimp only
  split
  · simp [undisturbed]
  · split <;> simp [undisturbed]

@[simp] theorem State.countTrip_undisturbed (s : State) (ref : TruckRef) (total : Nat) :
    undisturbed s (s.countTrip ref total) := ⟨rfl, rfl, rfl, rfl, rfl⟩

@[simp] theorem State.writeTruck_undisturbed (s : State) (tag target max : Nat) (material : Fin 16) (pinned : Bool)
    (way : Option (Fin 4)) : undisturbed s (s.writeTruck tag target max material pinned way).1 := by
  unfold State.writeTruck
  split
  · simp [undisturbed]
  · split <;> simp [undisturbed]

@[simp] theorem State.openFor_undisturbed (s : State) (d : Side) (tag : Nat) : undisturbed s (s.openFor d tag) := by
  simp [undisturbed, State.openFor, State.openLoad]

@[simp] theorem State.openAnonymous_undisturbed (s : State) (d : Side) : undisturbed s (s.openAnonymous d) :=
  ⟨rfl, rfl, rfl, rfl, rfl⟩

@[simp] theorem State.renumber_undisturbed (s : State) (d : Side) (logged : Nat) :
    undisturbed s (s.renumber d logged) := by
  unfold State.renumber
  dsimp only
  split <;> simp [undisturbed]

@[simp] theorem State.closeLoad_undisturbed (s : State) (d : Side) (reason : CloseReason) :
    undisturbed s (s.closeLoad d reason) := by
  unfold State.closeLoad
  dsimp only
  split <;> simp [undisturbed]

@[simp] theorem State.truckArrives_undisturbed (s : State) (d : Side) (tag : Nat) :
    undisturbed s (s.truckArrives d tag) := by
  unfold State.truckArrives
  dsimp only
  split
  case h_1 => simp [undisturbed]
  case h_2 => split <;> simp [undisturbed]
  all_goals
    split
    · simp [undisturbed]
    · split <;> simp [undisturbed]

@[simp] theorem State.tagEvent_undisturbed (s : State) (e : TagEvent) : undisturbed s (s.tagEvent e) := by
  unfold State.tagEvent
  split <;> simp [undisturbed]

@[simp] theorem State.ensureLoad_undisturbed (s : State) (d : Side) : undisturbed s (s.ensureLoad d) := by
  unfold State.ensureLoad
  split <;> simp [undisturbed]

@[simp] theorem State.commit_undisturbed (s : State) (d : Side) (w : WindowResult) (cycleTime : Nat) :
    undisturbed s (s.commit d w cycleTime) := by
  simp [undisturbed, State.commit]

@[simp] theorem State.truckDump_undisturbed (s : State) (w : WindowResult) (cycleTime : Nat) (choice : BayChoice)
    (dump : Nat) : undisturbed s (s.truckDump w cycleTime choice dump) := by
  simp [undisturbed, State.truckDump]

@[simp] theorem State.applyResidue_undisturbed (s : State) (r : Nat) (ref : DumpRef) :
    undisturbed s (s.applyResidue r ref) := by
  unfold State.applyResidue
  dsimp only
  split <;> simp [undisturbed]

@[simp] theorem State.endShift_undisturbed (s : State) (p : Port) : undisturbed s (s.endShift p) := by
  simp [undisturbed, State.endShift]

@[simp] theorem State.dropRequest_undisturbed (s : State) (p : Port) : undisturbed s (s.dropRequest p) :=
  ⟨rfl, rfl, rfl, rfl, rfl⟩

/-- The end of a grant disturbs nothing that its work has not. -/
theorem State.settle_answer_undisturbed (pre s t : State) (p : Port) (a : Answer) (h : undisturbed s t) :
    undisturbed s ((pre.settle t).answer p a) := by
  simpa [undisturbed] using h

end Sys2Proof.Machine
end

section
/-! SUPPORT. What the work of each request and of each item leaves alone, and so each command. -/

namespace Sys2Proof.Machine

/-! ### What the work of a request or an item keeps -/

/-- Work that disturbs nothing, whatever payload it is given. -/
abbrev Undisturbing (work : List Byte → State → State × Reply) : Prop :=
  ∀ payload s, undisturbed s (work payload s).1

theorem viewWork_undisturbing (figures : State → List Byte) : Undisturbing (viewWork figures) :=
  fun _ s => .refl s

theorem viewBayWork_undisturbing : Undisturbing viewBayWork := by
  intro payload s
  unfold viewBayWork
  split <;> exact .refl s

theorem viewTruckWork_undisturbing : Undisturbing viewTruckWork := by
  intro payload s
  unfold viewTruckWork
  split <;> (repeat' split) <;> exact .refl s

theorem viewCurveWork_undisturbing : Undisturbing viewCurveWork := by
  intro payload s
  unfold viewCurveWork
  dsimp only
  split
  · split <;> exact .refl s
  · exact .refl s

theorem nextRecordWork_undisturbing (p : Port) : Undisturbing (nextRecordWork p) :=
  fun _ _ => ⟨rfl, rfl, rfl, rfl, rfl⟩

theorem viewPortWork_undisturbing (p : Port) : Undisturbing (viewPortWork p) := fun _ _ => ⟨rfl, rfl, rfl, rfl, rfl⟩

theorem collectNoticesWork_undisturbing (p : Port) : Undisturbing (collectNoticesWork p) :=
  fun _ _ => ⟨rfl, rfl, rfl, rfl, rfl⟩

theorem setNoticesWork_undisturbing (p : Port) : Undisturbing (setNoticesWork p) := by
  intro payload s
  unfold setNoticesWork
  dsimp only
  split <;> simp [undisturbed]

theorem selectBayWork_undisturbing : Undisturbing selectBayWork := by
  intro payload s
  unfold selectBayWork
  split <;> simp [undisturbed]

theorem assignTruckWork_undisturbing : Undisturbing assignTruckWork := by
  intro payload s
  unfold assignTruckWork
  dsimp only
  split
  · exact .refl s
  · (repeat' split) <;> simp [undisturbed]

theorem closeLoadWork_undisturbing (p : Port) : Undisturbing (closeLoadWork p) := by
  intro payload s
  unfold closeLoadWork
  dsimp only
  split
  · exact .refl s
  · split <;> (try split) <;> simp [undisturbed]

theorem setLoadTargetWork_undisturbing : Undisturbing setLoadTargetWork := by
  intro payload s
  unfold setLoadTargetWork
  dsimp only
  split
  · exact .refl s
  · (repeat' split) <;> simp [undisturbed]

theorem zeroBucketWork_undisturbing : Undisturbing zeroBucketWork := by
  intro payload s
  unfold zeroBucketWork
  (repeat' split) <;> simp [undisturbed]

theorem cancelZeroWork_undisturbing : Undisturbing cancelZeroWork := fun _ _ => ⟨rfl, rfl, rfl, rfl, rfl⟩

theorem endShiftWork_undisturbing (p : Port) : Undisturbing (endShiftWork p) := by
  intro payload s
  unfold endShiftWork
  split <;> simp [undisturbed]

theorem restoreSnapshotWork_undisturbing : Undisturbing restoreSnapshotWork := by
  intro payload s
  unfold restoreSnapshotWork
  split
  · split <;> simp [undisturbed, State.restore]
  · exact .refl s

theorem writeTruckWork_undisturbing : Undisturbing writeTruckWork := by
  intro payload s
  unfold writeTruckWork
  dsimp only
  (repeat' split) <;> simp [undisturbed]

theorem dropTruckWork_undisturbing : Undisturbing dropTruckWork := by
  intro payload s
  unfold dropTruckWork
  dsimp only
  split
  · exact .refl s
  · split <;> simp [undisturbed]

theorem writeMaterialWork_undisturbing : Undisturbing writeMaterialWork := by
  intro payload s
  unfold writeMaterialWork
  dsimp only
  (repeat' split) <;> simp [undisturbed]

theorem setTimeWork_undisturbing : Undisturbing setTimeWork := fun _ _ => ⟨rfl, rfl, rfl, rfl, rfl⟩

theorem stagePieceWork_undisturbing : Undisturbing stagePieceWork := by
  intro payload s
  unfold stagePieceWork
  split <;> simp [undisturbed]

theorem stageFillWork_undisturbing : Undisturbing stageFillWork := by
  intro payload s
  simp [undisturbed, stageFillWork]

theorem startCaptureWork_undisturbing : Undisturbing startCaptureWork := by
  intro payload s
  unfold startCaptureWork
  split
  · exact .refl s
  · (repeat' split) <;> simp [undisturbed]

theorem abortCaptureWork_undisturbing : Undisturbing abortCaptureWork := by
  intro payload s
  unfold abortCaptureWork
  split <;> simp [undisturbed]

theorem installCurveWork_undisturbing : Undisturbing installCurveWork := by
  intro payload s
  unfold installCurveWork
  split
  · exact .refl s
  · split <;> simp [undisturbed]

theorem setProfileWork_undisturbing : Undisturbing setProfileWork := by
  intro payload s
  unfold setProfileWork
  split
  · exact .refl s
  · split <;> simp [undisturbed]

/-- Work on an item that disturbs nothing. -/
abbrev UndisturbingItem (work : Item → Option (State → State)) : Prop :=
  ∀ i f, work i = some f → ∀ s, undisturbed s (f s)

theorem tagEventWork_undisturbing : UndisturbingItem tagEventWork := by
  intro i f h s
  cases i <;> cases h
  simp [undisturbed]

theorem truckDumpWork_undisturbing : UndisturbingItem truckDumpWork := by
  intro i f h s
  cases i <;> cases h
  simp [undisturbed]

theorem pileDumpWork_undisturbing : UndisturbingItem pileDumpWork := by
  intro i f h s
  cases i <;> cases h
  simp [undisturbed]

theorem reweighWork_undisturbing : UndisturbingItem reweighWork := by
  intro i f h s
  cases i <;> cases h
  exact ⟨rfl, rfl, rfl, rfl, rfl⟩

theorem lostCycleWork_undisturbing : UndisturbingItem lostCycleWork := by
  intro i f h s
  cases i <;> cases h
  exact ⟨rfl, rfl, rfl, rfl, rfl⟩

theorem residueWork_undisturbing : UndisturbingItem residueWork := by
  intro i f h s
  cases i <;> cases h
  simp [undisturbed]

theorem zeroWork_undisturbing : UndisturbingItem zeroWork := by
  intro i f h s
  cases i <;> cases h
  dsimp only
  split <;> simp [undisturbed]

theorem captureWork_undisturbing : UndisturbingItem captureWork := by
  intro i f h s
  cases i <;> cases h
  simp [undisturbed]

/-! ### What a command comes to -/

/-- A grant of a request whose work disturbs nothing disturbs nothing. -/
theorem grantRequest_undisturbed {work : List Byte → State → State × Reply} (hw : Undisturbing work) (k : ReqKind)
    (p : Port) (calen : Option Bool) (s : State) :
    ∃ t, grantRequest k p calen work s = .next t ∧ undisturbed s t := by
  have asked : undisturbed s ((s.dropRequest p).readCalen calen) := by simp [undisturbed]
  refine grantRequest_keeps (.refl s) (fun r a _ _ => ?_) (fun r _ _ _ _ _ => ?_)
  · exact State.settle_answer_undisturbed s s _ p a asked
  · exact State.settle_answer_undisturbed s s _ p _ (asked.trans (hw r.payload _))

/-- A grant of an item whose work disturbs nothing disturbs nothing. -/
theorem grantItem_undisturbed {work : Item → Option (State → State)} (hw : UndisturbingItem work) (s : State) :
    ∃ t, grantItem work s = .next t ∧ undisturbed s t := by
  refine grantItem_keeps (.refl s) (fun i f _ _ hf => ?_)
  have worked : undisturbed s.dropItem (f s.dropItem) := hw i f hf _
  simpa [undisturbed] using worked

/-- The commands that name a request grant it by one work, which disturbs nothing unless it is of the link's. -/
theorem exec_of_request {c : Instr} {k : ReqKind} {p : Port} (h : c.request = some (k, p)) :
    ∃ calen work, (∀ s, exec c s = grantRequest k p calen work s) ∧ (c.writesLink = false → Undisturbing work) := by
  cases c <;> simp only [Instr.request, reduceCtorEq, Option.some.injEq, Prod.mk.injEq] at h <;>
    obtain ⟨rfl, rfl⟩ := h
  case viewLive => exact ⟨_, _, fun _ => rfl, fun _ => viewWork_undisturbing _⟩
  case viewBay => exact ⟨_, _, fun _ => rfl, fun _ => viewBayWork_undisturbing⟩
  case viewTruck => exact ⟨_, _, fun _ => rfl, fun _ => viewTruckWork_undisturbing⟩
  case viewMaterial => exact ⟨_, _, fun _ => rfl, fun _ => viewWork_undisturbing _⟩
  case viewCounters => exact ⟨_, _, fun _ => rfl, fun _ => viewWork_undisturbing _⟩
  case nextRecord p => exact ⟨_, _, fun _ => rfl, fun _ => nextRecordWork_undisturbing p⟩
  case viewNodes => exact ⟨_, _, fun _ => rfl, fun h => by cases h⟩
  case viewCurve => exact ⟨_, _, fun _ => rfl, fun _ => viewCurveWork_undisturbing⟩
  case viewProfile => exact ⟨_, _, fun _ => rfl, fun _ => viewWork_undisturbing _⟩
  case viewPort p => exact ⟨_, _, fun _ => rfl, fun _ => viewPortWork_undisturbing p⟩
  case viewPart => exact ⟨_, _, fun _ => rfl, fun _ => viewWork_undisturbing _⟩
  case collectNotices p => exact ⟨_, _, fun _ => rfl, fun _ => collectNoticesWork_undisturbing p⟩
  case setNotices p => exact ⟨_, _, fun _ => rfl, fun _ => setNoticesWork_undisturbing p⟩
  case takeSnapshot => exact ⟨_, _, fun _ => rfl, fun _ => viewWork_undisturbing _⟩
  case selectBay => exact ⟨_, _, fun _ => rfl, fun _ => selectBayWork_undisturbing⟩
  case assignTruck => exact ⟨_, _, fun _ => rfl, fun _ => assignTruckWork_undisturbing⟩
  case closeLoad p => exact ⟨_, _, fun _ => rfl, fun _ => closeLoadWork_undisturbing p⟩
  case setLoadTarget => exact ⟨_, _, fun _ => rfl, fun _ => setLoadTargetWork_undisturbing⟩
  case zeroBucket => exact ⟨_, _, fun _ => rfl, fun _ => zeroBucketWork_undisturbing⟩
  case cancelZero => exact ⟨_, _, fun _ => rfl, fun _ => cancelZeroWork_undisturbing⟩
  case endShift p => exact ⟨_, _, fun _ => rfl, fun _ => endShiftWork_undisturbing p⟩
  case restoreSnapshot => exact ⟨_, _, fun _ => rfl, fun _ => restoreSnapshotWork_undisturbing⟩
  case writeTruck => exact ⟨_, _, fun _ => rfl, fun _ => writeTruckWork_undisturbing⟩
  case dropTruck => exact ⟨_, _, fun _ => rfl, fun _ => dropTruckWork_undisturbing⟩
  case writeMaterial => exact ⟨_, _, fun _ => rfl, fun _ => writeMaterialWork_undisturbing⟩
  case setTime => exact ⟨_, _, fun _ => rfl, fun _ => setTimeWork_undisturbing⟩
  case nodeAccess => exact ⟨_, _, fun _ => rfl, fun h => by cases h⟩
  case nodeResult => exact ⟨_, _, fun _ => rfl, fun h => by cases h⟩
  case stagePiece => exact ⟨_, _, fun _ => rfl, fun _ => stagePieceWork_undisturbing⟩
  case stageFill => exact ⟨_, _, fun _ => rfl, fun _ => stageFillWork_undisturbing⟩
  case startCapture => exact ⟨_, _, fun _ => rfl, fun _ => startCaptureWork_undisturbing⟩
  case abortCapture => exact ⟨_, _, fun _ => rfl, fun _ => abortCaptureWork_undisturbing⟩
  case installCurve => exact ⟨_, _, fun _ => rfl, fun _ => installCurveWork_undisturbing⟩
  case setProfile => exact ⟨_, _, fun _ => rfl, fun _ => setProfileWork_undisturbing⟩

/-- The commands that grant an item grant it by one work, which takes items of their own kind alone and disturbs
nothing. -/
theorem exec_of_grantsItem {c : Instr} (h : c.grantsItem = true) :
    ∃ work, (∀ s, exec c s = grantItem work s) ∧ (∀ i, grantOf i ≠ c → work i = none) ∧ UndisturbingItem work := by
  cases c <;> simp only [Instr.grantsItem, Bool.false_eq_true] at h
  case tagEvent => exact ⟨_, fun _ => rfl, fun i hi => by cases i <;> trivial, tagEventWork_undisturbing⟩
  case truckDump => exact ⟨_, fun _ => rfl, fun i hi => by cases i <;> trivial, truckDumpWork_undisturbing⟩
  case pileDump => exact ⟨_, fun _ => rfl, fun i hi => by cases i <;> trivial, pileDumpWork_undisturbing⟩
  case reweigh => exact ⟨_, fun _ => rfl, fun i hi => by cases i <;> trivial, reweighWork_undisturbing⟩
  case lostCycle => exact ⟨_, fun _ => rfl, fun i hi => by cases i <;> trivial, lostCycleWork_undisturbing⟩
  case residue => exact ⟨_, fun _ => rfl, fun i hi => by cases i <;> trivial, residueWork_undisturbing⟩
  case zero => exact ⟨_, fun _ => rfl, fun i hi => by cases i <;> trivial, zeroWork_undisturbing⟩
  case capture => exact ⟨_, fun _ => rfl, fun i hi => by cases i <;> trivial, captureWork_undisturbing⟩

/-- A port event disturbs nothing. -/
theorem State.modifyPort_undisturbed (s : State) (p : Port) (f : PortBlock → PortBlock) :
    undisturbed s (s.modifyPort p f) := ⟨rfl, rfl, rfl, rfl, rfl⟩

/-- An entry to LOW and a measurement disturb nothing. -/
theorem State.supplyChanged_undisturbed (s : State) (v : Nat) (pre : SupplyState) :
    undisturbed s ((s.measured v).supplyChanged pre) := by
  have measured : undisturbed s (s.measured v) := ⟨rfl, rfl, rfl, rfl, rfl⟩
  refine measured.trans ?_
  unfold State.supplyChanged State.supplyLow
  split
  · exact .refl _
  · split
    · split <;> simp [undisturbed]
    · simp [undisturbed]

/-- A command that is no reset and none of the link's completes and disturbs nothing. -/
theorem exec_undisturbed {c : Instr} (hr : c.resets = false) (hl : c.writesLink = false) (s : State) :
    ∃ t, exec c s = .next t ∧ undisturbed s t := by
  by_cases hreq : c.request = none
  case neg =>
    obtain ⟨⟨k, p⟩, hkp⟩ := Option.ne_none_iff_exists'.1 hreq
    obtain ⟨calen, work, hexec, hwork⟩ := exec_of_request hkp
    rw [hexec]
    exact grantRequest_undisturbed (hwork hl) k p calen s
  by_cases hitem : c.grantsItem = true
  case pos =>
    obtain ⟨work, hexec, _, hwork⟩ := exec_of_grantsItem hitem
    rw [hexec]
    exact grantItem_undisturbed hwork s
  have idle : ∃ t, Host.Outcome.next (φ := Fault) (ρ := Refusal) s = .next t ∧ undisturbed s t := ⟨s, rfl, .refl s⟩
  have moves : ∀ p f, ∃ t, Host.Outcome.next (φ := Fault) (ρ := Refusal) (s.modifyPort p f) = .next t ∧
    undisturbed s t := fun p f => ⟨_, rfl, s.modifyPort_undisturbed p f⟩
  cases c <;> simp only [Instr.resets, Instr.writesLink, Instr.endsSweep, Instr.request, Instr.grantsItem,
    reduceCtorEq, not_true_eq_false, Bool.or_true, Bool.true_or] at hr hl hreq hitem <;>
    simp only [exec]
  case frameArrival => unfold execFrameArrival; split <;> [exact moves _ _; exact idle]
  case frameDiscard => unfold execFrameDiscard; split <;> [exact moves _ _; exact idle]
  case cabCsNRise => unfold execCabCsNRise; split <;> exact ⟨_, rfl, rfl, rfl, rfl, rfl, rfl⟩
  case frameGapTimeout => unfold execFrameGapTimeout; split <;> [exact moves _ _; exact idle]
  case answerSent =>
    unfold execAnswerSent
    dsimp only
    split
    · split
      · exact moves _ _
      · split <;> [exact moves _ _; exact idle]
      · split <;> [exact moves _ _; exact idle]
    · exact idle
  case supplyMeasurement v =>
    unfold execSupplyMeasurement
    split
    · exact ⟨_, rfl, s.supplyChanged_undisturbed _ _⟩
    · exact idle
  case clockTick => unfold execClockTick; split <;> exact ⟨_, rfl, rfl, rfl, rfl, rfl, rfl⟩
  case paceTimerExpiry => unfold execPaceTimerExpiry; split <;> [exact moves _ _; exact idle]
  case syncByteReceived =>
    unfold execSyncByteReceived
    split
    · split <;> [exact moves _ _; exact idle]
    · exact idle
  case cabCsNFall => exact ⟨_, rfl, rfl, rfl, rfl, rfl, rfl⟩

end Sys2Proof.Machine
end

section
/-! SUPPORT. The taking of a record (R22): what it leaves alone. -/

namespace Sys2Proof.Machine

/-! ### What the taking of a record keeps -/

/-- Everything but the tracker, the accumulator and the capture bins, the items that wait, the ports and the free-value
counter is as it was. -/
abbrev recordKeeps (s t : State) : Prop :=
  t.power = s.power ∧ t.pins = s.pins ∧ t.clock = s.clock ∧ t.resetRecord = s.resetRecord ∧ t.link = s.link ∧
    t.cal = s.cal ∧ t.bays = s.bays ∧ t.trucks = s.trucks ∧ t.materials = s.materials ∧ t.log = s.log ∧
    t.shift = s.shift ∧ t.supply = s.supply ∧ t.pending = s.pending ∧ t.weigh.zeroTrim = s.weigh.zeroTrim ∧
    t.arb.fresh = s.arb.fresh ∧ t.arb.lastServed = s.arb.lastServed

theorem recordKeeps.trans {s t u : State} (h : recordKeeps s t) (h' : recordKeeps t u) : recordKeeps s u := by
  simp_all [recordKeeps]

@[simp] theorem State.discardCapture_keeps (s : State) : recordKeeps s s.discardCapture := by
  unfold State.discardCapture
  split <;> simp [recordKeeps, State.emptyCaptureBins]

@[simp] theorem State.forcedIdle_keeps (s : State) : recordKeeps s s.forcedIdle := by
  unfold State.forcedIdle
  dsimp only
  split <;> simp [recordKeeps]

@[simp] theorem State.dump_keeps (s : State) (r : SweepRecord) : recordKeeps s (s.dump r) := by
  unfold State.dump
  dsimp only
  split
  · split <;> simp [recordKeeps]
  · simp [recordKeeps]

@[simp] theorem State.abandonCheck_keeps (s : State) : recordKeeps s s.abandonCheck := by
  simp [recordKeeps, State.abandonCheck]

@[simp] theorem State.endCaptureLift_keeps (s : State) : recordKeeps s s.endCaptureLift := by
  unfold State.endCaptureLift
  split <;> simp [recordKeeps]

@[simp] theorem State.abortCapture_keeps (s : State) : recordKeeps s s.abortCapture := by
  unfold State.abortCapture
  split <;> simp [recordKeeps]

@[simp] theorem State.overloadCheck_keeps (s : State) (net : Nat) (d : Side) :
    recordKeeps s (s.overloadCheck net d) := by
  simp [recordKeeps]

@[simp] theorem State.enterCarry_keeps (s : State) : recordKeeps s s.enterCarry := by
  unfold State.enterCarry
  dsimp only
  split <;> simp [recordKeeps]

@[simp] theorem State.endWindow_keeps (s : State) : recordKeeps s s.endWindow := by
  unfold State.endWindow State.endZeroing
  split
  · split <;> simp [recordKeeps]
  · exact s.enterCarry_keeps

@[simp] theorem State.endCheck_keeps (s : State) : recordKeeps s s.endCheck := by
  unfold State.endCheck
  dsimp only
  split
  · split <;> simp [recordKeeps]
  · simp [recordKeeps]

@[simp] theorem State.startReweigh_keeps (s : State) : recordKeeps s s.startReweigh := by
  unfold State.startReweigh
  dsimp only
  split <;> simp [recordKeeps]

@[simp] theorem State.boomTransition_keeps (s : State) (boom : Int) : recordKeeps s (s.boomTransition boom) := by
  unfold State.boomTransition
  dsimp only
  split <;> (repeat' split) <;> simp [recordKeeps, State.enterDig]

@[simp] theorem State.changeCycle_keeps (s : State) (r : SweepRecord) : recordKeeps s (s.changeCycle r) := by
  unfold State.changeCycle
  dsimp only
  (repeat' split) <;> simp [recordKeeps]

@[simp] theorem State.recordBoom_keeps (pre s : State) (r : SweepRecord) : recordKeeps s (pre.recordBoom r s) := by
  unfold State.recordBoom
  dsimp only
  split <;> simp [recordKeeps]

@[simp] theorem State.direct_keeps (s : State) (armed : Bool) (rate : Option Int) (r : SweepRecord) :
    recordKeeps s (s.direct armed rate r) := by
  unfold State.direct State.weighingSweep
  split <;> (try split) <;> simp [recordKeeps]

@[simp] theorem State.takeSteps_keeps (s : State) (r : SweepRecord) : recordKeeps s (s.takeSteps r) := by
  simp [recordKeeps, State.takeSteps]

@[simp] theorem State.takeRecord_keeps (s : State) (r : SweepRecord) : recordKeeps s (s.takeRecord r) := by
  rcases s.takeRecord_cases r with ⟨_, h⟩ | ⟨_, h⟩ | ⟨_, h⟩ <;> rw [h] <;> simp [recordKeeps]

/-- The end of a sweep keeps what the taking of its record keeps, but for the sweep itself. -/
theorem State.endSweep_keeps (s : State) (sw : Sweep) :
    recordKeeps { s with link := { s.link with sweep := none } } (s.endSweep sw) := by
  obtain ⟨k, n, h⟩ := s.endSweep_eq sw
  rw [h]
  simp [recordKeeps, State.sweepOver]

@[simp] theorem State.endSweep_link (s : State) (sw : Sweep) :
    (s.endSweep sw).link = { s.link with sweep := none } := by
  obtain ⟨_, _, _, _, h, _⟩ := s.endSweep_keeps sw
  exact h

@[simp] theorem State.endSweep_pending (s : State) (sw : Sweep) : (s.endSweep sw).pending = s.pending := by
  obtain ⟨_, _, _, _, _, _, _, _, _, _, _, _, h, _⟩ := s.endSweep_keeps sw
  exact h

/-- The tracker keeps a sweep's record (R45). -/
theorem State.takeRecord_prevRecord (s : State) (r : SweepRecord) :
    (s.takeRecord r).tracker.prevRecord = some r := by
  rcases s.takeRecord_cases r with ⟨_, h⟩ | ⟨_, h⟩ | ⟨_, h⟩ <;> rw [h] <;> rfl

theorem State.endSweep_prevRecord (s : State) (sw : Sweep) :
    (s.endSweep sw).tracker.prevRecord = some (sweepRecord s.link sw) := by
  obtain ⟨k, n, h⟩ := s.endSweep_eq sw
  rw [h]
  exact State.takeRecord_prevRecord _ _

end Sys2Proof.Machine
end

section
/-! SUPPORT. The sensor link (chapter 1): what a role's move, a raised SENSOR, the start of a sweep, a read, a probe and a
served slot make of the link. -/

namespace Sys2Proof

theorem Role.mem_all (role : Role) : role ∈ Role.all := by cases role <;> decide

theorem Role.all_nodup : Role.all.Nodup := by decide

end Sys2Proof

namespace Sys2Proof.Machine

/-! ### Roles and the notice SENSOR (R7 to R9) -/

/-- The roles that SENSOR names after a notice has been raised (R182). -/
theorem Pacer.sensorRoles_raise (pc : Pacer) (n : Notice) :
    (pc.raise n).sensorRoles = match n with
      | .sensor r => pc.sensorRoles.modify r fun _ => true
      | _ => pc.sensorRoles := by
  cases n <;> unfold Pacer.raise Pacer.assert Pacer.note <;> dsimp only <;> split <;> rfl

/-- A role's record at a port: SENSOR is raised exactly when the role enters or leaves FAULT (R9). -/
theorem State.setRole_port (s : State) (role : Role) (x : RoleRec) (p : Port) :
    (s.setRole role x).port p =
      if sensorDue (s.link.roles.get role).state x.state then
        (s.port p).modifyPacer fun pc => pc.raise (.sensor role)
      else s.port p := by
  unfold State.setRole
  dsimp only
  split
  · rw [State.raise_port]; rfl
  · rfl

/-- SENSOR is due exactly when FAULT is entered or left (R9). -/
theorem sensorDue_iff (a b : RoleState) : sensorDue a b = true ↔ ¬(a = .fault ↔ b = .fault) := by
  cases a <;> cases b <;> simp [sensorDue]

theorem State.setRole_ports_of_not_due {s : State} {role : Role} {x : RoleRec}
    (h : sensorDue (s.link.roles.get role).state x.state = false) : (s.setRole role x).ports = s.ports := by
  simp [State.setRole, h]

/-! ### The start of a sweep (R10, R11) -/

/-- What placing these roles anew makes of a state, when each whose address has changed is placed (R9, R10). -/
structure Rebound (binding : Roles (Option (Fin 16))) (placed : List Role) (s t : State) : Prop where
  frame : t = { s with link := t.link, ports := t.ports }
  link : t.link = { s.link with roles := t.link.roles }
  ports : samePorts s t
  role : ∀ role, t.link.roles.get role =
    if role ∈ placed then (s.link.roles.get role).rebound (binding.get role) else s.link.roles.get role
  sensor : ∀ p role, (t.port p).pacer.sensorRoles.get role = true ↔
    (s.port p).pacer.sensorRoles.get role = true ∨ role ∈ placed ∧
      sensorDue (s.link.roles.get role).state ((s.link.roles.get role).rebound (binding.get role)).state = true

/-- One role takes its binding. -/
def State.rebindRole (binding : Roles (Option (Fin 16))) (s : State) (role : Role) : State :=
  s.setRole role ((s.link.roles.get role).rebound (binding.get role))

theorem State.rebindRole_rebound (binding : Roles (Option (Fin 16))) (s : State) (role : Role) :
    Rebound binding [role] s (s.rebindRole binding role) where
  frame := by apply State.eq_of_fields <;> simp [State.rebindRole]
  link := by simp [State.rebindRole]
  ports := by
    intro p
    rw [State.rebindRole, State.setRole_port]
    split <;> rfl
  role := by
    intro q
    by_cases h : q = role
    · subst h; simp [State.rebindRole]
    · simp [State.rebindRole, Roles.get_modify_ne _ _ h, h]
  sensor := by
    intro p q
    rw [State.rebindRole, State.setRole_port]
    by_cases h : q = role
    · subst h
      split <;> simp [PortBlock.modifyPacer, Pacer.sensorRoles_raise, *]
    · split <;> simp [PortBlock.modifyPacer, Pacer.sensorRoles_raise, Roles.get_modify_ne _ _ h, h]

/-- Roles placed one group after another are placed together, when no role stands in both. -/
theorem Rebound.append {binding : Roles (Option (Fin 16))} {first next : List Role} {s t u : State}
    (h : Rebound binding first s t) (h' : Rebound binding next t u) (apart : first.Disjoint next) :
    Rebound binding (first ++ next) s u where
  frame := by rw [h'.frame, h.frame]
  link := by rw [h'.link, h.link]
  ports := fun p => by rw [h'.ports p, h.ports p]
  role := by
    intro q
    rw [h'.role, h.role]
    by_cases hf : q ∈ first
    · have hn : q ∉ next := fun hn => apart hf hn
      simp [hf, hn]
    · simp [hf]
  sensor := by
    intro p q
    rw [h'.sensor, h.sensor, h.role]
    by_cases hf : q ∈ first
    · have hn : q ∉ next := fun hn => apart hf hn
      simp [hf, hn]
    · simp [hf]

theorem State.rebind_rebound (binding : Roles (Option (Fin 16))) (s : State) :
    Rebound binding Role.all s (s.rebind binding) := by
  have fold : ∀ (roles : List Role), roles.Nodup → ∀ t : State,
      Rebound binding roles t (roles.foldl (fun t role => t.rebindRole binding role) t) := by
    intro roles
    induction roles with
    | nil => exact fun _ t => ⟨rfl, rfl, fun _ => rfl, by simp, by simp⟩
    | cons role rest ih =>
      intro hn t
      obtain ⟨hrole, hrest⟩ := List.nodup_cons.1 hn
      exact (t.rebindRole_rebound binding role).append (ih hrest _) (by simpa using hrole)
  exact fold Role.all Role.all_nodup s

/-- The reads of a sweep are those of the bound roles (R11). -/
theorem Rebound.bound {binding : Roles (Option (Fin 16))} {s t : State} (h : Rebound binding Role.all s t)
    (role : Role) : (t.link.roles.get role).bound = binding.get role := by
  rw [h.role, if_pos role.mem_all]
  unfold RoleRec.rebound
  split
  · assumption
  · rfl

/-- SWEEP_START on a running part between two sweeps (R10, R11). -/
theorem exec_sweepStart {s : State} (hp : s.power = .running) (hs : s.link.sweep = none) :
    exec .sweepStart s = .next ((s.rebind s.cal.profile.binding).modifyLink fun l =>
      { l with
        period := s.cal.profile.sweepPeriod
        sweep := some ⟨s.clock, Role.all.filter fun r => (s.cal.profile.binding.get r).isSome, none,
          Roles.all false, []⟩ }) := by
  have reads : (s.rebind s.cal.profile.binding).link.readOrder =
      Role.all.filter fun r => (s.cal.profile.binding.get r).isSome := by
    simp only [Link.readOrder, (s.rebind_rebound s.cal.profile.binding).bound]
  simp [exec, execSweepStart, hp, hs, State.modifyLink, reads]

/-! ### The end of a role's read (R3, R6 to R9, R13) -/

/-- What a tag makes of the sweep and the zero tags (R13). -/
theorem Link.takeTag_spec (l : Link) (sw : Sweep) (fetched : Option TagEvent) :
    ∃ tags n, l.takeTag sw fetched = { l with sweep := some { sw with tags := tags }, zeroTags := n } ∧
      (fetched = none → tags = sw.tags ∧ n = l.zeroTags) ∧
      (∀ e ∈ fetched, e.tag = 0 → tags = sw.tags ∧ n = satAdd max16 l.zeroTags 1) ∧
      (∀ e ∈ fetched, e.tag ≠ 0 → tags = sw.tags ++ [e] ∧ n = l.zeroTags) := by
  cases fetched with
  | none => exact ⟨sw.tags, l.zeroTags, rfl, by simp⟩
  | some e =>
    by_cases h : e.tag = 0
    · exact ⟨sw.tags, satAdd max16 l.zeroTags 1, by simp [Link.takeTag, h]⟩
    · exact ⟨sw.tags ++ [e], l.zeroTags, by simp [Link.takeTag, h]⟩

/-- The presence map once a transaction at an address has been answered by a node of this type, or by none but a
probe (R3). -/
def State.hears (s : State) (addr : Fin 16) : Option NodeType → State
  | none => s
  | some type => s.modifyLink fun l => l.answered addr type

theorem State.hears_eq (s : State) (addr : Fin 16) (seen : Option NodeType) :
    s.hears addr seen = { s with link := { s.link with presence := (s.hears addr seen).link.presence } } := by
  cases seen <;> rfl

/-- The role's record once a read has ended with this answer, or none (R7, R8). -/
def State.roleAfter (s : State) (role : Role) (heard : Option ReadAnswer) : RoleRec :=
  (s.link.roles.get role).after (readResult role heard)

/-- The tag that a read brings, the answer being the one received (R13). -/
def State.tagFetched (s : State) (role : Role) (heard : Option ReadAnswer) : Option TagEvent :=
  heard.bind (fetchedTag role (s.roleAfter role heard) (readResult role heard))

/-- The sweep behind a role's read, before the read's tag joins it (R11, R12). -/
def Sweep.afterRead (sw : Sweep) (rest : List Role) (role : Role) (heard : Option ReadAnswer) : Sweep :=
  { sw with toRead := rest, marked := sw.marked.modify role fun _ => (readResult role heard).marker }

/-- The end of a read, in the words of this layer. -/
theorem State.readEnds_eq (s : State) (sw : Sweep) (rest : List Role) (role : Role) (addr : Fin 16)
    (reply : Option ReadAnswer) :
    let heard := reply.filter fun a => a.node.received addr
    s.readEnds sw rest role addr reply =
      ((s.hears addr (heard.map fun a => a.node.type)).setRole role (s.roleAfter role heard)).modifyLink fun l =>
        l.takeTag (sw.afterRead rest role heard) (s.tagFetched role heard) := by
  dsimp only
  unfold State.readEnds
  cases reply.filter fun a => a.node.received addr <;> rfl

/-- The end of a role's read at an address, with the answer received, if one was. -/
structure ReadEnded (s t : State) (sw : Sweep) (rest : List Role) (role : Role) (addr : Fin 16)
    (heard : Option ReadAnswer) : Prop where
  frame : t = { s with link := t.link, ports := t.ports }
  port : ∀ p, t.port p =
    if sensorDue (s.link.roles.get role).state (s.roleAfter role heard).state then
      (s.port p).modifyPacer fun pc => pc.raise (.sensor role)
    else s.port p
  link : t.link = { s.link with
    presence := (s.hears addr (heard.map fun a => a.node.type)).link.presence
    roles := s.link.roles.modify role fun _ => s.roleAfter role heard
    zeroTags := t.link.zeroTags
    sweep := t.link.sweep }
  sweep : ∃ tags, t.link.sweep = some { sw.afterRead rest role heard with tags := tags } ∧
    (s.tagFetched role heard = none → tags = sw.tags ∧ t.link.zeroTags = s.link.zeroTags) ∧
    (∀ e ∈ s.tagFetched role heard, e.tag = 0 → tags = sw.tags ∧ t.link.zeroTags = satAdd max16 s.link.zeroTags 1) ∧
    (∀ e ∈ s.tagFetched role heard, e.tag ≠ 0 → tags = sw.tags ++ [e] ∧ t.link.zeroTags = s.link.zeroTags)

theorem State.readEnds_ended (s : State) (sw : Sweep) (rest : List Role) (role : Role) (addr : Fin 16)
    (reply : Option ReadAnswer) :
    ReadEnded s (s.readEnds sw rest role addr reply) sw rest role addr
      (reply.filter fun a => a.node.received addr) := by
  rw [State.readEnds_eq]
  generalize reply.filter (fun a => a.node.received addr) = heard
  have hears := s.hears_eq addr (heard.map fun a => a.node.type)
  obtain ⟨tags, n, take, htags⟩ := Link.takeTag_spec
    ((s.hears addr (heard.map fun a => a.node.type)).setRole role (s.roleAfter role heard)).link
    (sw.afterRead rest role heard) (s.tagFetched role heard)
  rw [State.modifyLink, take]
  constructor
  case frame => apply State.eq_of_fields <;> simp <;> rw [hears]
  case port =>
    intro p
    have same : (s.hears addr (heard.map fun a => a.node.type)).port p = s.port p := by rw [hears]; rfl
    have roles : (s.hears addr (heard.map fun a => a.node.type)).link.roles = s.link.roles := by rw [hears]
    have moved := State.setRole_port (s.hears addr (heard.map fun a => a.node.type)) role (s.roleAfter role heard) p
    rwa [same, roles] at moved
  case link =>
    rw [State.setRole_link]
    rw [hears]
  case sweep =>
    refine ⟨tags, rfl, ?_⟩
    rw [State.setRole_link, hears] at htags
    exact htags

/-- READ_VALUE of the role whose turn it is (R7). -/
theorem exec_readValue {s : State} {sw : Sweep} {rest : List Role} {role : Role} {addr : Fin 16}
    (hp : s.power = .running) (hs : s.link.sweep = some sw) (hr : sw.toRead = role :: rest)
    (hb : (s.link.roles.get role).bound = some addr) (reply : Option ReadAnswer) :
    exec (.readValue role reply) s = .next (s.readEnds sw rest role addr reply) := by
  simp [exec, execReadValue, hp, hs, hr, hb]

/-- READ_VALUE of any other role, or of none, does nothing (notes/assumptions/1.md). -/
theorem exec_readValue_idle {s : State} {role : Role}
    (h : ¬(s.power = .running ∧ ∃ sw ∈ s.link.sweep,
      sw.toRead.head? = some role ∧ (s.link.roles.get role).bound.isSome = true)) (reply : Option ReadAnswer) :
    exec (.readValue role reply) s = .next s := by
  simp only [exec, execReadValue]
  split
  · rename_i hp
    split
    · rfl
    · rename_i sw hs
      split
      · rename_i r rest addr hr hb
        refine if_neg fun he => h ⟨hp, sw, hs, ?_⟩
        simp [hr, hb, he]
      · rfl
  · rfl

/-! ### The probe and the node access (R3, R4, R15) -/

/-- The presence map and the pointer once the sweep's probe has ended (R3, R4). -/
def State.probed (s : State) (heard : Option NodeAnswer) : State :=
  s.modifyLink fun l =>
    { (match heard with
        | some a => l.answered l.probePtr a.type
        | none => l.probeMissed l.probePtr) with probePtr := l.probePtr + 1 }

theorem State.probed_eq (s : State) (heard : Option NodeAnswer) :
    s.probed heard = { s with link := { s.link with
      presence := (s.probed heard).link.presence, probePtr := s.link.probePtr + 1 } } := by
  cases heard <;> rfl

theorem State.probed_presence_of_answer (s : State) (a : NodeAnswer) :
    (s.probed (some a)).link.presence = s.link.presence.set s.link.probePtr ⟨true, some a.type, 0⟩ := rfl

theorem State.probed_presence_of_miss (s : State) :
    (s.probed none).link.presence =
      s.link.presence.set s.link.probePtr s.link.presence[s.link.probePtr].probeMissed := rfl

/-- The end of a probe, in the words of this layer. -/
theorem State.probeEnds_eq (s : State) (sw : Sweep) (reply : Option NodeAnswer) :
    s.probeEnds sw reply = match s.link.toServe with
      | some i => (s.probed (reply.filter fun a => a.received s.link.probePtr)).modifyLink fun l =>
          { l with lastServed := i, sweep := some { sw with slot := some i } }
      | none => (s.probed (reply.filter fun a => a.received s.link.probePtr)).endSweep sw := by
  unfold State.probeEnds
  dsimp only
  cases reply.filter fun a => a.received s.link.probePtr <;> rfl

/-- PROBE behind a sweep's reads (R11). -/
theorem exec_probe {s : State} {sw : Sweep} (hp : s.power = .running) (hs : s.link.sweep = some sw)
    (hr : sw.toRead = []) (hi : sw.slot = none) (reply : Option NodeAnswer) :
    exec (.probe reply) s = .next (s.probeEnds sw reply) := by
  simp [exec, execProbe, hp, hs, hr, hi]

/-- PROBE at any other place does nothing (notes/assumptions/1.md). -/
theorem exec_probe_idle {s : State}
    (h : ¬(s.power = .running ∧ ∃ sw ∈ s.link.sweep, sw.toRead = [] ∧ sw.slot = none)) (reply : Option NodeAnswer) :
    exec (.probe reply) s = .next s := by
  simp only [exec, execProbe]
  split
  · rename_i hp
    split
    · rfl
    · rename_i sw hs
      exact if_neg fun hc => h ⟨hp, sw, hs, hc⟩
  · rfl

/-- A served slot's transaction, in the words of this layer (R15). -/
theorem State.serveEnds_hears (s : State) (sw : Sweep) (i : Fin 2) (a : Access) (seen : Option NodeType)
    (x : AccessResult) :
    s.serveEnds sw i a seen x =
      (((s.hears a.address seen).modifyLink fun l => { l with slots := l.slots.set i (.done a x) }).raise
        .node).endSweep sw := by
  cases seen <;> rfl

theorem State.serving_eq_some {s : State} {sw : Sweep} {i : Fin 2} {a : Access} :
    s.serving = some (sw, i, a) ↔ s.link.sweep = some sw ∧ sw.slot = some i ∧ s.link.slots[i] = .armed a := by
  unfold State.serving
  cases s.link.sweep with
  | none => simp
  | some w =>
    dsimp only
    cases hw : w.slot with
    | none =>
      simp only [reduceCtorEq, Option.some.injEq, false_iff]
      rintro ⟨rfl, hi, _⟩
      simp [hw] at hi
    | some j =>
      dsimp only
      constructor
      · intro h
        split at h
        · cases h; exact ⟨rfl, hw, by assumption⟩
        · cases h
        · cases h
      · rintro ⟨h, hj, ha⟩
        cases h
        rw [hw] at hj
        cases hj
        simp [ha]

/-- What a node answered to NODE_READ, as the slot keeps it (R15). -/
def readOutcome (heard : Option ItemAnswer) : AccessResult :=
  match heard with
  | some b => .ack b.node.status b.node.type (some b.value)
  | none => .noack

/-- What a node answered to NODE_WRITE, as the slot keeps it (R15). -/
def writeOutcome (heard : Option NodeAnswer) : AccessResult :=
  match heard with
  | some b => .ack b.status b.type none
  | none => .noack

/-- NODE_READ of the slot under service. -/
theorem exec_nodeRead {s : State} {sw : Sweep} {i : Fin 2} {a : Access} (hp : s.power = .running)
    (hv : s.serving = some (sw, i, a)) (hd : a.dir = .read) (reply : Option ItemAnswer) :
    let heard := reply.filter fun b => b.node.received a.address
    exec (.nodeRead reply) s =
      .next (s.serveEnds sw i a (heard.map fun b => b.node.type) (readOutcome heard)) := by
  simp only [exec, execNodeRead, hp, hv, hd, if_true]
  cases reply.filter fun b => b.node.received a.address <;> rfl

/-- NODE_WRITE of the slot under service. -/
theorem exec_nodeWrite {s : State} {sw : Sweep} {i : Fin 2} {a : Access} (hp : s.power = .running)
    (hv : s.serving = some (sw, i, a)) (hd : a.dir = .write) (reply : Option NodeAnswer) :
    let heard := reply.filter fun b => b.received a.address
    exec (.nodeWrite reply) s =
      .next (s.serveEnds sw i a (heard.map fun b => b.type) (writeOutcome heard)) := by
  simp only [exec, execNodeWrite, hp, hv, hd, if_true]
  cases reply.filter fun b => b.received a.address <;> rfl

/-- NODE_READ with no slot of direction read under service does nothing (notes/assumptions/1.md). -/
theorem exec_nodeRead_idle {s : State}
    (h : ∀ sw i a, s.power = .running → s.serving = some (sw, i, a) → a.dir ≠ .read) (reply : Option ItemAnswer) :
    exec (.nodeRead reply) s = .next s := by
  simp only [exec, execNodeRead]
  split
  · rename_i hp
    split
    · rfl
    · rename_i sw i a hv
      exact if_neg (h sw i a hp hv)
  · rfl

/-- NODE_WRITE with no slot of direction write under service does nothing (notes/assumptions/1.md). -/
theorem exec_nodeWrite_idle {s : State}
    (h : ∀ sw i a, s.power = .running → s.serving = some (sw, i, a) → a.dir ≠ .write) (reply : Option NodeAnswer) :
    exec (.nodeWrite reply) s = .next s := by
  simp only [exec, execNodeWrite]
  split
  · rename_i hp
    split
    · rfl
    · rename_i sw i a hv
      exact if_neg (h sw i a hp hv)
  · rfl

end Sys2Proof.Machine
end

section
/-! SUPPORT. The link's law (R3, R5, R7, R8, R11, R13): each thing that the link does keeps it, and so every step. -/

namespace Sys2Proof.Machine

/-! ### Role records (R5 to R8) -/

/-- A result that a role's own node can bring: a good answer carries a value in the role's range, and a value at all
only for a measurement role (R6). -/
def ReadResult.fits (role : Role) : ReadResult → Prop
  | .good v _ => (v.isSome ↔ role.range.isSome) ∧ ∀ x ∈ v, ∀ lim ∈ role.range, lim.1 ≤ x ∧ x ≤ lim.2
  | .bad | .miss => True

/-- The two limits of a role's range are in order (R5). -/
theorem Role.range_ordered {role : Role} {lo hi : Int} (h : role.range = some (lo, hi)) : lo ≤ hi := by
  cases role <;> simp [Role.range] at h <;> omega

/-- A role value lies in the role's range (R6). -/
theorem roleValue_within {lo hi : Int} (h : lo ≤ hi) (status : NodeStatus) (v : Int) :
    lo ≤ (roleValue lo hi status v).1 ∧ (roleValue lo hi status v).1 ≤ hi := by
  unfold roleValue nearerLimit clamp
  split
  · dsimp only
    split <;> omega
  · dsimp only
    split
    · omega
    · split <;> omega

theorem readResult_fits (role : Role) (heard : Option ReadAnswer) : (readResult role heard).fits role := by
  cases heard with
  | none => trivial
  | some a =>
    change (judge role a).fits role
    unfold judge
    split
    · split
      · rename_i lo hi hr
        simpa [ReadResult.fits, hr] using roleValue_within (Role.range_ordered hr) a.node.status a.value
      · rename_i hr
        simp [ReadResult.fits, hr]
    · trivial

/-- A role placed anew is in order (R8, R10). -/
theorem roleInOrder_placed (role : Role) (bound : Option (Fin 16)) : roleInOrder role (RoleRec.placed bound) := by
  cases bound <;> simp [roleInOrder, RoleRec.placed]

theorem roleInOrder_enterFault {role : Role} {r : RoleRec} (h : roleInOrder role r) (hs : r.state ≠ .unbound) :
    roleInOrder role r.enterFault := by
  obtain ⟨_, _, hbound, _⟩ := h
  simp_all [roleInOrder, RoleRec.enterFault]

theorem roleInOrder_enterOk {role : Role} {r : RoleRec} {v : Option Int} {m : Bool} (h : roleInOrder role r)
    (hs : r.state ≠ .unbound) (hv : (ReadResult.good v m).fits role) : roleInOrder role (r.enterOk v) := by
  obtain ⟨_, _, hbound, _⟩ := h
  obtain ⟨hsome, hrange⟩ := hv
  refine ⟨by simp [RoleRec.enterOk], by simp [RoleRec.enterOk], ?_, by simp [RoleRec.enterOk],
    by simp [RoleRec.enterOk], by simpa [RoleRec.enterOk] using hsome, hrange⟩
  simpa [RoleRec.enterOk, hs] using hbound

/-- The table of R7 keeps a role in order. -/
theorem roleInOrder_after {role : Role} {r : RoleRec} {res : ReadResult} (h : roleInOrder role r)
    (hres : res.fits role) : roleInOrder role (r.after res) := by
  have kept := h
  obtain ⟨hm, hr, hbound, hhold, hfault, hgood, hrange⟩ := kept
  unfold RoleRec.after
  split
  case h_1 => exact h
  case h_2 hs => exact roleInOrder_enterOk h (by simp [hs]) hres
  case h_3 hs =>
    have noRecovery : r.recoveries = 0 := by by_contra hne; simp [hs] at hfault; exact hne hfault
    refine ⟨by simp, hr, by simpa [hs] using hbound, by simp, by simp [noRecovery], by simpa [hs] using hgood, hrange⟩
  case h_4 hs => exact roleInOrder_enterFault h (by simp [hs])
  case h_5 hs => exact roleInOrder_enterOk h (by simp [hs]) hres
  case h_6 hs =>
    split
    · refine ⟨by dsimp only; omega, hr, hbound, by simp [hs], hfault, hgood, hrange⟩
    · exact roleInOrder_enterFault h (by simp [hs])
  case h_7 hs => exact roleInOrder_enterFault h (by simp [hs])
  case h_8 hs =>
    split
    · exact ⟨hm, by dsimp only; omega, hbound, hhold, fun _ => hs, hgood, hrange⟩
    · exact roleInOrder_enterOk h (by simp [hs]) hres
  case h_9 => exact ⟨hm, by simp, hbound, hhold, by simp, hgood, hrange⟩
  case h_10 => exact ⟨hm, by simp, hbound, hhold, by simp, hgood, hrange⟩

/-- The table of R7 leaves a role's address. -/
@[simp] theorem RoleRec.after_bound (r : RoleRec) (res : ReadResult) : (r.after res).bound = r.bound := by
  unfold RoleRec.after
  split <;> (try split) <;> rfl

/-! ### The presence map (R3) -/

/-- A presence entry's count is in range, and it has a type exactly when it is present (R3). -/
abbrev Presence.inOrder (e : Presence) : Prop := e.missed ≤ 2 ∧ (e.present = true ↔ e.type.isSome = true)

theorem Presence.inOrder_probeMissed {e : Presence} (h : e.inOrder) : e.probeMissed.inOrder := by
  obtain ⟨_, htype⟩ := h
  unfold Presence.probeMissed
  split
  · exact ⟨by dsimp only; omega, htype⟩
  · simp [Presence.inOrder]

theorem presence_set_inOrder {map : Vector Presence 16} (h : ∀ i : Fin 16, map[i].inOrder) (addr : Fin 16)
    {e : Presence} (he : e.inOrder) (i : Fin 16) : (map.set addr e)[i].inOrder := by
  by_cases hi : addr.val = i.val
  · simpa [Fin.getElem_fin, Vector.getElem_set, hi] using he
  · simpa [Fin.getElem_fin, Vector.getElem_set, hi] using h i

/-! ### The sweep (R11, R13) -/

/-- The read of a role that is next in order leaves no tag behind it, or none but the left one. -/
theorem sweepInOrder_next {sw : Sweep} {role : Role} {rest : List Role} (h : sweepInOrder sw)
    (hr : sw.toRead = role :: rest) (marked : Roles Bool) :
    sweepInOrder { sw with toRead := rest, marked := marked } := by
  obtain ⟨hsub, hslot, hpair, htags⟩ := h
  rw [hr] at hsub hslot htags
  refine ⟨(List.sublist_cons_self role rest).trans hsub, fun hs => absurd (hslot hs) (by simp), hpair, ?_⟩
  intro e he
  obtain ⟨hleft, hright⟩ := htags e he
  exact ⟨fun hm => hleft (List.mem_cons_of_mem role hm), fun hs hm => hright hs (List.mem_cons_of_mem role hm)⟩

/-- Behind a tag reader the left one is not read, and behind the right one neither is (R5, R11). -/
theorem tagReaders_last : Role.all.Pairwise fun a b =>
    a.side.isSome = true → b ≠ .tagL ∧ (a.side = some .right → b ≠ .tagR) := by decide

/-- The read of a tag reader that is next in order may bring its tag: the left one's is the first, and only a left tag
stands before the right one's (R13). -/
theorem sweepInOrder_tag {sw : Sweep} {role : Role} {rest : List Role} (h : sweepInOrder sw)
    (hr : sw.toRead = role :: rest) (marked : Roles Bool) {e : TagEvent} (he : role.side = some e.side) :
    sweepInOrder { sw with toRead := rest, marked := marked, tags := sw.tags ++ [e] } := by
  obtain ⟨hsub, hslot, hpair, htags⟩ := sweepInOrder_next h hr marked
  obtain ⟨hsub₀, _, _, htags₀⟩ := h
  rw [hr] at hsub₀ htags₀
  have behind := (List.pairwise_cons.1 (tagReaders_last.sublist hsub₀)).1
  have before : ∀ x ∈ sw.tags, x.side = .left ∧ e.side = .right := by
    intro x hx
    obtain ⟨hleft, hright⟩ := htags₀ x hx
    have right : role = .tagR := by
      have hne : role ≠ .tagL := fun h => hleft (by simp [h])
      revert hne he
      cases role <;> simp [Role.side]
    subst right
    refine ⟨?_, (Option.some.inj he).symm⟩
    cases hs : x.side with
    | left => rfl
    | right => exact absurd (List.mem_cons_self ..) (hright hs)
  refine ⟨hsub, hslot, ?_, ?_⟩
  · simpa [List.pairwise_append] using ⟨hpair, before⟩
  · intro x hx
    rcases List.mem_append.1 hx with hx | hx
    · exact htags x hx
    · obtain rfl := List.mem_singleton.1 hx
      have reader : role.side.isSome = true := by simp [he]
      exact ⟨fun hm => (behind _ hm reader).1 rfl, fun hs hm => (behind _ hm reader).2 (by rw [he, hs]) rfl⟩

/-- A tag that a read fetches is of the reader's side (R13). -/
theorem State.side_of_tagFetched {s : State} {role : Role} {heard : Option ReadAnswer} {e : TagEvent}
    (h : s.tagFetched role heard = some e) : role.side = some e.side := by
  obtain ⟨a, _, ha⟩ := Option.bind_eq_some_iff.1 h
  unfold fetchedTag at ha
  split at ha
  · rename_i side _ hs _
    split at ha
    · cases ha; exact hs
    · cases ha
  · cases ha

/-! ### The law through the link's own changes -/

/-- The law speaks of the link alone. -/
theorem LinkLaw.congr {s t : State} (h : LinkLaw s) (he : t.link = s.link) : LinkLaw t := by
  unfold LinkLaw
  rw [he]
  exact h

theorem LinkLaw.presence {s : State} (h : LinkLaw s) (i : Fin 16) : s.link.presence[i].inOrder := by
  obtain ⟨_, hpresence, _⟩ := h
  exact hpresence i

theorem LinkLaw.zeroTags {s : State} (h : LinkLaw s) : s.link.zeroTags ≤ max16 := by
  obtain ⟨_, _, hzero, _⟩ := h
  exact hzero

theorem LinkLaw.order {s : State} {sw : Sweep} (h : LinkLaw s) (hs : s.link.sweep = some sw) : sweepInOrder sw := by
  obtain ⟨_, _, _, hsweep⟩ := h
  exact (hsweep sw hs).1

/-- The law after a change that leaves the roles, with no sweep in progress or one in order whose reads are those of the
sweep before. -/
theorem LinkLaw.of_roles {s t : State} (h : LinkLaw s) (hr : t.link.roles = s.link.roles)
    (hp : ∀ i : Fin 16, t.link.presence[i].inOrder) (hz : t.link.zeroTags ≤ max16)
    (hs : ∀ sw ∈ t.link.sweep, sweepInOrder sw ∧ ∀ role ∈ sw.toRead, ∃ old ∈ s.link.sweep, role ∈ old.toRead) :
    LinkLaw t := by
  obtain ⟨hroles, _, _, hsweep⟩ := h
  refine ⟨by rwa [hr], hp, hz, fun sw hsw => ⟨(hs sw hsw).1, fun role hm => ?_⟩⟩
  obtain ⟨old, hold, hmem⟩ := (hs sw hsw).2 role hm
  rw [hr]
  exact (hsweep old hold).2 role hmem

/-- The law after a reset (R18, R19). -/
theorem LinkLaw.of_reset {s : State} (binding : Roles (Option (Fin 16))) (period : Nat)
    (h : s.link = Link.afterReset binding period) : LinkLaw s := by
  refine ⟨fun role _ => ?_, fun i => ?_, ?_, ?_⟩ <;> rw [h]
  · simpa [Link.afterReset] using roleInOrder_placed role (binding.get role)
  · simp [Link.afterReset]
  · simp [Link.afterReset]
  · simp [Link.afterReset]

/-- The law at the end of a sweep whose last transaction keeps it. -/
theorem LinkLaw.endSweep {s : State} (h : LinkLaw s) (sw : Sweep) : LinkLaw (s.endSweep sw) := by
  exact h.of_roles (by simp) (by rw [State.endSweep_link]; exact h.presence) (by simpa using h.zeroTags) (by simp)

theorem LinkLaw.hears {s : State} (h : LinkLaw s) (addr : Fin 16) (seen : Option NodeType) :
    LinkLaw (s.hears addr seen) := by
  cases seen with
  | none => exact h
  | some type =>
    exact h.of_roles rfl (presence_set_inOrder h.presence addr (by simp [Presence.inOrder])) h.zeroTags
      fun sw hsw => ⟨h.order hsw, fun role hm => ⟨sw, hsw, hm⟩⟩

theorem LinkLaw.probed {s : State} (h : LinkLaw s) (heard : Option NodeAnswer) : LinkLaw (s.probed heard) := by
  have presence : ∀ i : Fin 16, (s.probed heard).link.presence[i].inOrder := by
    cases heard with
    | some a => exact presence_set_inOrder h.presence _ (by simp [Presence.inOrder])
    | none => exact presence_set_inOrder h.presence _ (Presence.inOrder_probeMissed (h.presence _))
  rw [State.probed_eq] at presence ⊢
  exact h.of_roles rfl presence h.zeroTags fun sw hsw => ⟨h.order hsw, fun role hm => ⟨sw, hsw, hm⟩⟩

/-- The law when a sweep starts (R10, R11). -/
theorem LinkLaw.sweepStart {s t : State} {binding : Roles (Option (Fin 16))} (h : LinkLaw s)
    (hb : Rebound binding Role.all s t) (clock : Clock) (period : Nat) :
    LinkLaw (t.modifyLink fun l =>
      { l with
        period := period
        sweep := some ⟨clock, Role.all.filter fun r => (binding.get r).isSome, none, Roles.all false, []⟩ }) := by
  obtain ⟨hroles, hpresence, hzero, _⟩ := h
  refine ⟨fun role hm => ?_, ?_, ?_, ?_⟩
  · change roleInOrder role (t.link.roles.get role)
    rw [hb.role, if_pos hm, RoleRec.rebound]
    split
    · exact hroles role hm
    · exact roleInOrder_placed role _
  · rw [State.modifyLink_link, hb.link]; exact hpresence
  · rw [State.modifyLink_link, hb.link]; exact hzero
  · simp only [State.modifyLink_link, Option.mem_def, Option.some.injEq, forall_eq']
    refine ⟨⟨List.filter_sublist, by simp, List.Pairwise.nil, by simp⟩, fun role hm => ?_⟩
    rw [hb.bound]
    exact (List.mem_filter.1 hm).2

/-- The law when a role's read ends (R3, R7, R8, R13). -/
theorem LinkLaw.readEnded {s t : State} {sw : Sweep} {rest : List Role} {role : Role} {addr : Fin 16}
    {heard : Option ReadAnswer} (h : LinkLaw s) (hs : s.link.sweep = some sw) (hr : sw.toRead = role :: rest)
    (he : ReadEnded s t sw rest role addr heard) : LinkLaw t := by
  have presence := (h.hears addr (heard.map fun a => a.node.type)).presence
  obtain ⟨hroles, _, hzero, hsweep⟩ := h
  obtain ⟨order, bound⟩ := hsweep sw hs
  have roles : t.link.roles = s.link.roles.modify role fun _ => s.roleAfter role heard := by rw [he.link]
  obtain ⟨tags, sweep, hnone, hz, htag⟩ := he.sweep
  have count : t.link.zeroTags ≤ max16 ∧ sweepInOrder { sw.afterRead rest role heard with tags := tags } := by
    cases hf : s.tagFetched role heard with
    | none =>
      obtain ⟨rfl, hn⟩ := hnone hf
      exact ⟨hn ▸ hzero, sweepInOrder_next order hr _⟩
    | some e =>
      by_cases h0 : e.tag = 0
      · obtain ⟨rfl, hn⟩ := hz e hf h0
        exact ⟨by rw [hn]; simp [satAdd], sweepInOrder_next order hr _⟩
      · obtain ⟨rfl, hn⟩ := htag e hf h0
        exact ⟨hn ▸ hzero, sweepInOrder_tag order hr _ (State.side_of_tagFetched hf)⟩
  refine ⟨fun q _ => ?_, ?_, count.1, ?_⟩
  · rw [roles]
    by_cases hq : q = role
    · subst hq
      simpa [State.roleAfter] using roleInOrder_after (hroles q q.mem_all) (readResult_fits q heard)
    · rw [Roles.get_modify_ne _ _ hq]
      exact hroles q q.mem_all
  · rw [he.link]; exact presence
  · simp only [sweep, Option.mem_def, Option.some.injEq, forall_eq']
    refine ⟨count.2, fun q hm => ?_⟩
    have hbound := bound q (by rw [hr]; exact List.mem_cons_of_mem role hm)
    rw [roles]
    by_cases hq : q = role
    · subst hq
      simpa [State.roleAfter] using hbound
    · rwa [Roles.get_modify_ne _ _ hq]

/-! ### The law through the commands -/

/-- NODE_ACCESS changes the slots alone (R14). -/
theorem nodeAccessWork_slots (payload : List Byte) (s : State) :
    ∃ slots, (nodeAccessWork payload s).1 = { s with link := { s.link with slots := slots } } := by
  unfold nodeAccessWork
  dsimp only
  (repeat' split) <;> exact ⟨_, rfl⟩

/-- NODE_RESULT changes the slots alone (R16). -/
theorem nodeResultWork_slots (payload : List Byte) (s : State) :
    ∃ slots, (nodeResultWork payload s).1 = { s with link := { s.link with slots := slots } } := by
  unfold nodeResultWork
  dsimp only
  split
  · split <;> exact ⟨_, rfl⟩
  · exact ⟨_, rfl⟩

/-- The law does not speak of the slots, and a zero-tag count of 0 keeps it. -/
theorem LinkLaw.of_slots {s t : State} {slots : Vector Slot 2} {n : Nat} (h : LinkLaw s)
    (he : t.link = { s.link with slots := slots, zeroTags := n }) (hn : n ≤ max16) : LinkLaw t := by
  refine h.of_roles (by rw [he]) (by rw [he]; exact h.presence) (by rw [he]; exact hn) fun sw hsw => ?_
  rw [he] at hsw
  exact ⟨h.order hsw, fun role hm => ⟨sw, hsw, hm⟩⟩

/-- A request whose work keeps the law keeps it. -/
theorem LinkLaw.grantRequest {s : State} (h : LinkLaw s) (k : ReqKind) (p : Port)
    {work : List Byte → State → State × Reply} (hw : ∀ payload u, LinkLaw u → LinkLaw (work payload u).1) :
    ∃ t, grantRequest k p none work s = .next t ∧ LinkLaw t := by
  have asked : LinkLaw ((s.dropRequest p).readCalen none) := h
  refine grantRequest_keeps h (fun r a _ _ => asked.congr (by simp)) (fun r _ _ _ _ _ => ?_)
  exact (hw r.payload _ asked).congr (by simp)

/-- A reset keeps the law (R18, R19). -/
theorem LinkLaw.reset {c : Instr} {s : State} (h : LinkLaw s) (hc : c.resets = true) :
    ∃ t, exec c s = .next t ∧ LinkLaw t := by
  cases c <;> simp only [Instr.resets, Bool.false_eq_true] at hc
  case powerOnReset => exact ⟨_, rfl, .of_reset _ _ rfl⟩
  case powerCollapse => exact ⟨_, rfl, .of_reset _ _ rfl⟩
  case pinReset =>
    simp only [exec, execPinReset]
    split
    · exact ⟨_, rfl, h.of_roles rfl h.presence h.zeroTags (by simp [State.dropWork])⟩
    · exact ⟨_, rfl, h⟩
    · exact ⟨_, rfl, h⟩
  case pinResetRelease =>
    simp only [exec, execPinResetRelease]
    split
    · exact ⟨_, rfl, .of_reset _ _ rfl⟩
    · exact ⟨_, rfl, .of_reset _ _ rfl⟩
    · exact ⟨_, rfl, h⟩
    · exact ⟨_, rfl, h⟩

/-- The law at the end of a node access (R15). -/
theorem LinkLaw.serveEnds {s : State} (h : LinkLaw s) (sw : Sweep) (i : Fin 2) (a : Access) (seen : Option NodeType)
    (x : AccessResult) : LinkLaw (s.serveEnds sw i a seen x) := by
  have mapped := h.hears a.address seen
  rw [State.serveEnds_hears]
  refine LinkLaw.endSweep (LinkLaw.congr ?_ (State.raise_link _ _)) sw
  exact mapped.of_slots (slots := (s.hears a.address seen).link.slots.set i (.done a x))
    (n := (s.hears a.address seen).link.zeroTags) rfl mapped.zeroTags

/-- A command of the link keeps the law. -/
theorem LinkLaw.linkCommand {c : Instr} {s : State} (h : LinkLaw s) (hc : c.writesLink = true) :
    ∃ t, exec c s = .next t ∧ LinkLaw t := by
  cases c <;> simp only [Instr.writesLink, Instr.endsSweep, Bool.or_false, Bool.false_eq_true] at hc
  case sweepStart =>
    by_cases hs : s.power = .running ∧ s.link.sweep = none
    · exact ⟨_, exec_sweepStart hs.1 hs.2, h.sweepStart (s.rebind_rebound _) _ _⟩
    · exact ⟨s, if_neg hs, h⟩
  case readValue role reply =>
    by_cases ho : s.power = .running ∧ ∃ sw ∈ s.link.sweep,
        sw.toRead.head? = some role ∧ (s.link.roles.get role).bound.isSome = true
    · obtain ⟨hp, sw, hs, hhead, hbound⟩ := ho
      obtain ⟨rest, hr⟩ := List.head?_eq_some_iff.1 hhead
      obtain ⟨addr, hb⟩ := Option.isSome_iff_exists.1 hbound
      exact ⟨_, exec_readValue hp hs hr hb reply, h.readEnded hs hr (s.readEnds_ended ..)⟩
    · exact ⟨s, exec_readValue_idle ho reply, h⟩
  case probe reply =>
    by_cases ho : s.power = .running ∧ ∃ sw ∈ s.link.sweep, sw.toRead = [] ∧ sw.slot = none
    · obtain ⟨hp, sw, hs, hr, hi⟩ := ho
      refine ⟨_, exec_probe hp hs hr hi reply, ?_⟩
      have probed := h.probed (reply.filter fun a => a.received s.link.probePtr)
      rw [State.probeEnds_eq]
      split
      · obtain ⟨hsub, _, hpair, htags⟩ := h.order hs
        refine probed.of_roles rfl probed.presence probed.zeroTags ?_
        simp only [State.modifyLink_link, Option.mem_def, Option.some.injEq, forall_eq']
        exact ⟨⟨hsub, fun _ => hr, hpair, htags⟩, by simp [hr]⟩
      · exact probed.endSweep sw
    · exact ⟨s, exec_probe_idle ho reply, h⟩
  case nodeRead reply =>
    by_cases ho : ∃ sw i a, s.power = .running ∧ s.serving = some (sw, i, a) ∧ a.dir = .read
    · obtain ⟨sw, i, a, hp, hv, hd⟩ := ho
      exact ⟨_, exec_nodeRead hp hv hd reply, h.serveEnds ..⟩
    · exact ⟨s, exec_nodeRead_idle (fun sw i a hp hv hd => ho ⟨sw, i, a, hp, hv, hd⟩) reply, h⟩
  case nodeWrite reply =>
    by_cases ho : ∃ sw i a, s.power = .running ∧ s.serving = some (sw, i, a) ∧ a.dir = .write
    · obtain ⟨sw, i, a, hp, hv, hd⟩ := ho
      exact ⟨_, exec_nodeWrite hp hv hd reply, h.serveEnds ..⟩
    · exact ⟨s, exec_nodeWrite_idle (fun sw i a hp hv hd => ho ⟨sw, i, a, hp, hv, hd⟩) reply, h⟩
  case viewNodes p => exact h.grantRequest _ p fun _ _ hu => hu.of_slots rfl (Nat.zero_le _)
  case nodeAccess p =>
    refine h.grantRequest _ p fun payload u hu => ?_
    obtain ⟨slots, hw⟩ := nodeAccessWork_slots payload u
    exact hu.of_slots (by rw [hw]) hu.zeroTags
  case nodeResult p =>
    refine h.grantRequest _ p fun payload u hu => ?_
    obtain ⟨slots, hw⟩ := nodeResultWork_slots payload u
    exact hu.of_slots (by rw [hw]) hu.zeroTags

/-- Every command keeps the law. -/
theorem LinkLaw.exec {s : State} (h : LinkLaw s) (c : Instr) : ∃ t, exec c s = .next t ∧ LinkLaw t := by
  by_cases hr : c.resets = true
  · exact h.reset hr
  by_cases hl : c.writesLink = true
  · exact h.linkCommand hl
  obtain ⟨t, ht, _, _, hlink, _⟩ := exec_undisturbed (by simpa using hr) (by simpa using hl) s
  exact ⟨t, ht, h.congr hlink⟩

/-- Settles O58: each command of the link keeps the law, and no other command but a reset touches the link. -/
theorem stepsKeepLink : Obligations.StepsKeepLink := by
  intro s t h hs
  exact step_keeps (P := LinkLaw) (fun u _ hu => hu.congr rfl) (fun c u hu => hu.exec c) h hs

end Sys2Proof.Machine
end

section
/-! SUPPORT. Every command completes and leaves the queue, and one whose event cannot occur leaves the state. -/

namespace Sys2Proof.Machine

/-! ### The queue -/

@[simp] theorem State.rebind_pending (s : State) (binding : Roles (Option (Fin 16))) :
    (s.rebind binding).pending = s.pending := by
  rw [(s.rebind_rebound binding).frame]

@[simp] theorem State.readEnds_pending (s : State) (sw : Sweep) (rest : List Role) (role : Role) (addr : Fin 16)
    (reply : Option ReadAnswer) : (s.readEnds sw rest role addr reply).pending = s.pending := by
  rw [(s.readEnds_ended sw rest role addr reply).frame]

@[simp] theorem State.hears_pending (s : State) (addr : Fin 16) (seen : Option NodeType) :
    (s.hears addr seen).pending = s.pending := by
  rw [State.hears_eq]

@[simp] theorem State.probeEnds_pending (s : State) (sw : Sweep) (reply : Option NodeAnswer) :
    (s.probeEnds sw reply).pending = s.pending := by
  have probed : ∀ heard, (s.probed heard).pending = s.pending := fun heard => by rw [State.probed_eq]
  rw [State.probeEnds_eq]
  split <;> simp [probed]

@[simp] theorem State.serveEnds_pending (s : State) (sw : Sweep) (i : Fin 2) (a : Access) (seen : Option NodeType)
    (x : AccessResult) : (s.serveEnds sw i a seen x).pending = s.pending := by
  simp [State.serveEnds_hears]

/-- A request whose work leaves the queue leaves it. -/
theorem grantRequest_keepsQueue (k : ReqKind) (p : Port) (s : State) {work : List Byte → State → State × Reply}
    (hw : ∀ payload u, (work payload u).1.pending = u.pending) :
    ∃ t, grantRequest k p none work s = .next t ∧ t.pending = s.pending :=
  grantRequest_keeps rfl (fun _ _ _ _ => by simp) (fun _ _ _ _ _ _ => by simp [hw])

/-- A reset completes and leaves the queue. -/
theorem exec_reset_keepsQueue {c : Instr} (hc : c.resets = true) (s : State) :
    ∃ t, exec c s = .next t ∧ t.pending = s.pending := by
  cases c <;> simp only [Instr.resets, Bool.false_eq_true] at hc <;> simp only [exec]
  case powerOnReset => exact ⟨_, rfl, rfl⟩
  case powerCollapse => exact ⟨_, rfl, rfl⟩
  case pinReset => unfold execPinReset; dsimp only; split <;> exact ⟨_, rfl, rfl⟩
  case pinResetRelease => unfold execPinResetRelease; dsimp only; split <;> exact ⟨_, rfl, rfl⟩

/-- A command of the link completes and leaves the queue. -/
theorem exec_link_keepsQueue {c : Instr} (hc : c.writesLink = true) (s : State) :
    ∃ t, exec c s = .next t ∧ t.pending = s.pending := by
  cases c <;> simp only [Instr.writesLink, Instr.endsSweep, Bool.or_false, Bool.false_eq_true] at hc <;>
    simp only [exec]
  case sweepStart => unfold execSweepStart; dsimp only; split <;> exact ⟨_, rfl, by simp⟩
  case readValue => unfold execReadValue; (repeat' split) <;> exact ⟨_, rfl, by simp⟩
  case probe => unfold execProbe; (repeat' split) <;> exact ⟨_, rfl, by simp⟩
  case nodeRead => unfold execNodeRead; (repeat' split) <;> exact ⟨_, rfl, by simp⟩
  case nodeWrite => unfold execNodeWrite; (repeat' split) <;> exact ⟨_, rfl, by simp⟩
  case viewNodes p => exact grantRequest_keepsQueue _ p s fun _ _ => rfl
  case nodeAccess p =>
    refine grantRequest_keepsQueue _ p s fun payload u => ?_
    obtain ⟨slots, hw⟩ := nodeAccessWork_slots payload u
    rw [hw]
  case nodeResult p =>
    refine grantRequest_keepsQueue _ p s fun payload u => ?_
    obtain ⟨slots, hw⟩ := nodeResultWork_slots payload u
    rw [hw]

/-- Every command completes and leaves the queue. -/
theorem exec_keepsQueue (c : Instr) (s : State) : ∃ t, exec c s = .next t ∧ t.pending = s.pending := by
  by_cases hr : c.resets = true
  · exact exec_reset_keepsQueue hr s
  by_cases hl : c.writesLink = true
  · exact exec_link_keepsQueue hl s
  obtain ⟨t, ht, _, _, _, _, hq⟩ := exec_undisturbed (by simpa using hr) (by simpa using hl) s
  exact ⟨t, ht, hq⟩

/-! ### Commands out of their turn (notes/assumptions/1.md, 2.md, 34.md) -/

/-- A request that the arbiter's turn gives to a port is offered there (R175). -/
theorem OffersRequest.of_turn {s : State} {p : Port} {r : Request} (hp : s.power = .running)
    (h : s.turn = some (.request p r)) : ∃ rest, OffersRequest s p r rest := by
  obtain ⟨hi, hq, ha⟩ := State.turn_request h
  obtain ⟨rest, hrest⟩ := List.head?_eq_some_iff.1 hq
  refine ⟨rest, hp, hi, hrest, ha, ?_⟩
  by_cases hl : s.arb.lastServed = p.other
  · exact .inr (.inr hl)
  have last : s.arb.lastServed = p := by
    revert hl; cases p <;> cases s.arb.lastServed <;> simp [Port.other]
  have idle : (s.port p.other).ready = none := by
    unfold State.turn at h
    rw [hi, last] at h
    cases ho : (s.port p.other).ready with
    | none => rfl
    | some q =>
      rw [ho] at h
      simp only [Option.some.injEq, Turn.request.injEq] at h
      obtain ⟨he, _⟩ := h
      cases p <;> cases he
  unfold PortBlock.ready at idle
  split at idle
  · exact .inl (by simpa using idle)
  · exact .inr (.inl (by omega))

/-- A request that is not offered at a port is not granted there. -/
theorem grantRequest_idle {k : ReqKind} {p : Port} {s : State}
    (h : ¬∃ r rest, OffersRequest s p r rest ∧ r.kind = k) (calen : Option Bool)
    (work : List Byte → State → State × Reply) : grantRequest k p calen work s = .next s := by
  unfold grantRequest
  split
  · rename_i hp
    split
    · rename_i q r ht
      refine if_neg fun ⟨hq, hk⟩ => h ?_
      subst hq
      obtain ⟨rest, ho⟩ := OffersRequest.of_turn hp ht
      exact ⟨r, rest, ho, hk⟩
    · rfl
  · rfl

/-- Work is not done for an item of another kind than the one in front. -/
theorem grantItem_idle {work : Item → Option (State → State)} {s : State}
    (h : ∀ i, s.power = .running → s.arb.items.head? = some i → work i = none) : grantItem work s = .next s := by
  unfold grantItem
  split
  · rename_i hp
    split
    · rfl
    · rename_i i rest hi
      rw [h i hp (by rw [hi]; rfl)]
  · rfl

/-- A request's event is its turn. -/
theorem canOccur_of_request {c : Instr} {k : ReqKind} {p : Port} (h : c.request = some (k, p)) (s : State)
    (ho : ∃ r rest, OffersRequest s p r rest ∧ r.kind = k) : c.canOccur s := by
  cases c <;> simp only [Instr.request, reduceCtorEq] at h <;> exact ⟨k, p, h, ho⟩

/-- An item's event is its turn. -/
theorem canOccur_of_grantsItem {c : Instr} (h : c.grantsItem = true) {s : State} (hp : s.power = .running)
    (hi : s.arb.items.head?.map grantOf = some c) : c.canOccur s := by
  cases c <;> simp only [Instr.grantsItem, Bool.false_eq_true] at h <;> exact ⟨hp, hi⟩

/-- A change of a port that leaves the port as it is leaves the state. -/
theorem State.modifyPort_self {s : State} {p : Port} {f : PortBlock → PortBlock} (h : f (s.port p) = s.port p) :
    s.modifyPort p f = s := by
  have ports : s.ports.modify p f = s.ports := by
    cases p
    · change { s.ports with cab := f (s.port .cab) } = s.ports; rw [h]; rfl
    · change { s.ports with fleet := f (s.port .fleet) } = s.ports; rw [h]; rfl
  simp [State.modifyPort, ports]

theorem State.portOpen_iff (s : State) (p : Port) : s.portOpen p = true ↔ portMoves s p := by
  cases p <;> simp [State.portOpen, portMoves]

theorem PortBlock.complete_idle {b : PortBlock} {p : Port} {f : Frame}
    (h : ∀ g, b.assembler = .assembling g → ¬g ≤ f.payload.length + 6) : b.complete p f = b := by
  unfold PortBlock.complete
  split
  · rfl
  · exact if_neg (h _ (by assumption))

theorem PortBlock.breakAt_idle {b : PortBlock} {p : Port} {k : Nat}
    (h : ∀ g, b.assembler = .assembling g → ¬g ≤ k) : b.breakAt p k = b := by
  unfold PortBlock.breakAt
  split
  · rfl
  · exact if_neg (h _ (by assumption))

theorem PortBlock.breakFrame_idle {b : PortBlock} (h : ∀ g, b.assembler ≠ .assembling g) : b.breakFrame = b := by
  unfold PortBlock.breakFrame
  split
  · rfl
  · exact absurd (by assumption) (h _)

/-- A frame cannot arrive behind an assembler that hunts or has passed its end. -/
theorem exec_frameArrival_idle {p : Port} {f : Frame} {s : State} (h : ¬(Instr.frameArrival p f).canOccur s) :
    exec (.frameArrival p f) s = .next s := by
  simp only [exec, execFrameArrival]
  split
  · rename_i ho
    have past : ∀ g, (s.port p).assembler = .assembling g →
        ¬g ≤ if f.payload.length ≤ 480 then f.payload.length + 6 else 2 :=
      fun g hg hle => h ⟨(s.portOpen_iff p).1 ho, g, hg, hle⟩
    refine congrArg _ (State.modifyPort_self ?_)
    split
    · exact PortBlock.complete_idle fun g hg => by simpa [*] using past g hg
    · exact PortBlock.breakAt_idle fun g hg => by simpa [*] using past g hg
  · rfl

/-- A frame cannot be discarded by an assembler that hunts, nor by its length once that has passed. -/
theorem exec_frameDiscard_idle {p : Port} {cause : DiscardCause} {s : State}
    (h : ¬(Instr.frameDiscard p cause).canOccur s) : exec (.frameDiscard p cause) s = .next s := by
  simp only [exec, execFrameDiscard]
  split
  · rename_i ho
    obtain ⟨hopen, hcause⟩ := ho
    have past : ∀ g, (s.port p).assembler = .assembling g → ¬(cause ≠ .brokenByte → g ≤ 2) :=
      fun g hg hle => h ⟨(s.portOpen_iff p).1 hopen, hcause, g, hg, hle⟩
    refine congrArg _ (State.modifyPort_self ?_)
    cases cause with
    | length n => exact PortBlock.breakAt_idle fun g hg hle => past g hg fun _ => hle
    | brokenByte => exact PortBlock.breakFrame_idle fun g hg => past g hg fun hne => absurd rfl hne
  · rfl

/-- A port cannot send more than it can. -/
theorem exec_answerSent_idle {x : Sending} {s : State} (h : ¬(Instr.answerSent x).canOccur s) :
    exec (.answerSent x) s = .next s := by
  simp only [exec, execAnswerSent]
  split
  · rename_i ho
    rw [s.portOpen_iff x.port] at ho
    obtain ⟨p, n⟩ := x
    cases p with
    | cab =>
      cases ha : (s.port .cab).assembler with
      | hunting => exact absurd ⟨ho, fun g hg => by rw [ha] at hg; cases hg⟩ h
      | assembling g =>
        refine if_neg fun hle => h ⟨ho, fun g' hg => ?_⟩
        rw [ha] at hg
        cases hg
        exact hle
    | fleet =>
      refine if_neg fun hle => h ⟨ho, ?_⟩
      simpa [PortBlock.unsent] using hle
  · rfl

/-- A command whose event cannot occur leaves the state. -/
theorem exec_idle {c : Instr} {s : State} (h : ¬c.canOccur s) : exec c s = .next s := by
  by_cases hreq : c.request = none
  case neg =>
    obtain ⟨⟨k, p⟩, hkp⟩ := Option.ne_none_iff_exists'.1 hreq
    obtain ⟨calen, work, hexec, _⟩ := exec_of_request hkp
    rw [hexec]
    exact grantRequest_idle (fun ho => h (canOccur_of_request hkp s ho)) calen work
  by_cases hitem : c.grantsItem = true
  case pos =>
    obtain ⟨work, hexec, hwork, _⟩ := exec_of_grantsItem hitem
    rw [hexec]
    exact grantItem_idle fun i hp hi => hwork i fun hg => h (canOccur_of_grantsItem hitem hp (by rw [hi, ← hg]; rfl))
  cases c <;> simp only [Instr.request, Instr.grantsItem, reduceCtorEq, not_true_eq_false] at hreq hitem <;>
    simp only [Instr.canOccur, not_true_eq_false] at h
  case sweepStart => exact if_neg h
  case readValue reply => exact exec_readValue_idle h reply
  case probe reply => exact exec_probe_idle h reply
  case nodeRead reply =>
    refine exec_nodeRead_idle (fun sw i a hp hv hd => h ?_) reply
    obtain ⟨hs, hi, ha⟩ := State.serving_eq_some.1 hv
    exact ⟨hp, sw, hs, i, hi, a, ha, hd⟩
  case nodeWrite reply =>
    refine exec_nodeWrite_idle (fun sw i a hp hv hd => h ?_) reply
    obtain ⟨hs, hi, ha⟩ := State.serving_eq_some.1 hv
    exact ⟨hp, sw, hs, i, hi, a, ha, hd⟩
  case frameArrival => exact exec_frameArrival_idle h
  case frameDiscard => exact exec_frameDiscard_idle h
  case frameGapTimeout =>
    simp only [exec, execFrameGapTimeout]
    split
    · rename_i ho
      obtain ⟨hp, _⟩ := (s.portOpen_iff .fleet).1 ho
      exact congrArg _ (State.modifyPort_self (PortBlock.breakFrame_idle fun g hg => h ⟨hp, g, hg⟩))
    · rfl
  case answerSent => exact exec_answerSent_idle h
  case supplyMeasurement => exact if_neg h
  case clockTick =>
    simp only [exec, execClockTick]
    split
    · exact absurd (.inl (by assumption)) h
    · exact absurd (.inr (by assumption)) h
    · rfl
    · rfl
  case paceTimerExpiry p =>
    simp only [exec, execPaceTimerExpiry]
    split
    · rename_i hp
      have stopped : (s.port p).pacer.timer = none := by
        by_contra hne
        exact h ⟨hp, hne⟩
      exact congrArg _ (State.modifyPort_self (by simp [PortBlock.modifyPacer, Pacer.expire, stopped]))
    · rfl
  case syncByteReceived p =>
    simp only [exec, execSyncByteReceived]
    split
    · rename_i ha
      exact if_neg fun ho => h ⟨(s.portOpen_iff p).1 ho, ha⟩
    · rfl

/-- Settles O2: whatever a command changes is not the queue, and each guard of a command is its event's. -/
theorem commandsCompleteAndKeepQueue : Obligations.CommandsCompleteAndKeepQueue :=
  ⟨exec_keepsQueue, fun _ _ => exec_idle⟩

end Sys2Proof.Machine
end

section
/-! The resets: the power-on defaults (R18 to R186), the laws at reset, and the pin reset (R166). -/

namespace Sys2Proof.Machine

/-! ### The values after a power-on reset -/

/-- The link's tables after a power-on reset (R18). -/
theorem reset_presence (i : Fin 16) : State.reset.link.presence[i] = ⟨false, none, 0⟩ := by
  simp [State.reset, Link.afterReset]

theorem reset_slots (i : Fin 2) : State.reset.link.slots[i] = .free := by
  simp [State.reset, Link.afterReset]

theorem reset_roles (role : Role) (_ : role ∈ Role.all) :
    (State.reset.link.roles.get role).state = .fault ∧ (State.reset.link.roles.get role).misses = 0 ∧
      (State.reset.link.roles.get role).recoveries = 0 ∧ (State.reset.link.roles.get role).lastGood = none := by
  cases role <;> exact ⟨rfl, rfl, rfl, rfl⟩

/-- The capture bins and the two curves after a power-on reset (R73, R95). -/
theorem reset_bins (i : Fin 16) : State.reset.weigh.bins[i] = ⟨0, 0⟩ := by
  simp [State.reset, Weigh.powerOn, emptyBins]

theorem reset_curves (i : Fin 16) :
    State.reset.cal.active[i] = ⟨0, 1336⟩ ∧ State.reset.cal.staging[i] = ⟨0, 1336, false, false⟩ := by
  simp [State.reset, Cal.powerOn]

/-- Both bays after a power-on reset (R124). -/
theorem reset_bay (d : Side) : State.reset.bay d = ⟨.empty, 0, none, none, 0, 40000, 44000, 0, [], 0⟩ := by
  cases d <;> rfl

/-- A truck set after a power-on reset (R127, R144). -/
theorem reset_truckSet (i : Fin 8) :
    State.reset.trucks[i] = ⟨Vector.replicate 4 TruckEntry.invalid, false, false, false⟩ := by
  simp [State.reset, trucksPowerOn]

theorem reset_truckEntry (i : Fin 8) (w : Fin 4) : State.reset.trucks[i].ways[w] = TruckEntry.invalid := by
  rw [reset_truckSet]
  simp

/-- The material table after a power-on reset (R144). -/
theorem reset_material (i : Fin 16) : State.reset.materials[i] =
    if i = 0 then ⟨1600, [0x44, 0x45, 0x46, 0x41, 0x55, 0x4C, 0x54, 0x20]⟩ else ⟨0, List.replicate 8 0x20⟩ := by
  revert i
  decide +kernel

/-- A port after a power-on reset (R186). -/
theorem reset_port (p : Port) : State.reset.port p = PortBlock.afterReset p := by cases p <;> rfl

theorem reset_pacer (p : Port) : ∃ enables interval, (State.reset.port p).pacer = Pacer.afterReset enables interval := by
  cases p <;> exact ⟨_, _, rfl⟩

/-- Settles O3: block by block, the state after a reset is the literal that the manual gives. -/
theorem powerOnDefaultsAreTheManuals : Obligations.PowerOnDefaultsAreTheManuals := by
  unfold Obligations.PowerOnDefaultsAreTheManuals
  refine ⟨rfl, rfl,
    reset_presence, rfl, reset_roles, rfl, reset_slots, rfl, rfl, rfl,
    rfl, rfl, rfl, rfl, rfl, rfl, rfl, rfl, rfl, rfl, rfl, reset_bins, rfl,
    reset_curves, rfl, rfl, rfl,
    reset_bay, rfl, rfl, rfl, rfl,
    fun i w => ?truckEntry, fun i => ?truckBits, reset_material,
    rfl, rfl, rfl, rfl, rfl, rfl, rfl,
    fun p => ?port, rfl, rfl, rfl, rfl, rfl⟩
  case truckEntry => rw [reset_truckEntry]; exact ⟨rfl, rfl, rfl, rfl⟩
  case truckBits => rw [reset_truckSet]; exact ⟨rfl, rfl, rfl⟩
  case port =>
    obtain ⟨enables, interval, hpacer⟩ := reset_pacer p
    rw [hpacer, reset_port]
    refine ⟨rfl, rfl, rfl, rfl, rfl, fun i => ?_, rfl, rfl, fun d => ?_, fun role => ?_⟩
    · simp [Pacer.afterReset]
    · cases d <;> exact ⟨rfl, rfl, rfl⟩
    · simp [Pacer.afterReset]

/-! ### The laws after a power-on reset -/

theorem reset_portLaw : PortLaw State.reset := by decide +kernel

theorem reset_attentionLaw : AttentionLaw State.reset := by decide +kernel

theorem reset_bayLaw : BayLaw State.reset := by
  have bay : (Bay.afterReset Profile.default).consistent := by
    refine ⟨rfl, rfl, by decide, by decide, rfl, ?_, fun _ => ⟨rfl, rfl, rfl, rfl⟩⟩
    rintro t ⟨⟩
  refine ⟨bay, bay, fun h => absurd rfl h, by decide, by decide, by decide, ?_, ?_, ?_⟩
  · rintro w ⟨⟩
  · rintro i ⟨⟩
  · rintro sw ⟨⟩

theorem reset_figuresLaw : FiguresLaw State.reset := by
  refine ⟨by decide, by decide, by decide, fun i w hv => ?_⟩
  rw [reset_truckEntry] at hv
  cases hv

theorem reset_numberLaw : NumberLaw State.reset := by decide +kernel

theorem reset_truckLaw : TruckLaw State.reset := by
  refine ⟨fun i w hv => ?_, ?_, ?_⟩
  · rw [reset_truckEntry] at hv
    cases hv
  · rintro ref ⟨⟩
  · rintro ref ⟨⟩

theorem reset_logLaw : LogLaw State.reset := by decide

theorem reset_counterLaw : CounterLaw State.reset := by decide

theorem reset_freshLaw : FreshLaw State.reset := fun _ => ⟨rfl, rfl, rfl, rfl, rfl, rfl, rfl⟩

theorem reset_curveLaw : CurveLaw State.reset := by
  refine ⟨fun i => ?_, fun i => ?_, by decide, fun _ => rfl⟩
  · rw [(reset_curves i).1]; decide
  · rw [(reset_curves i).2]; decide

theorem reset_zeroTrimLaw : ZeroTrimLaw State.reset := by
  refine ⟨by decide, by decide, ?_⟩
  rintro i ⟨⟩

theorem reset_profileLaw : ProfileLaw State.reset := by
  refine ⟨by decide +kernel, fun i => ?_, by decide +kernel⟩
  rw [reset_material]
  split <;> decide +kernel

theorem reset_linkLaw : LinkLaw State.reset := .of_reset _ _ rfl

theorem reset_accumulatorLaw : AccumulatorLaw State.reset := by decide +kernel

theorem reset_trackerLaw : TrackerLaw State.reset := by decide +kernel

theorem reset_supplyLaw : SupplyLaw State.reset := by decide

/-- Settles O48: law by law, from the values of each block after a reset. -/
theorem lawsHoldAfterReset : Obligations.LawsHoldAfterReset :=
  ⟨reset_portLaw, reset_attentionLaw, reset_bayLaw, reset_figuresLaw, reset_numberLaw, reset_truckLaw, reset_logLaw,
    reset_counterLaw, reset_freshLaw, reset_curveLaw, reset_zeroTrimLaw, reset_profileLaw, reset_linkLaw,
    reset_accumulatorLaw, reset_trackerLaw, reset_supplyLaw⟩

/-! ### The pin reset (R166) -/

/-- RESET_N falls on a running part: the work in progress is dropped, and the receivers, queues, buffers and lines are
(R19, R186). -/
theorem exec_pinReset {s : State} (hp : s.power = .running) :
    exec .pinReset s = .next ({ s with pins := { s.pins with resetLow := true } } : State).dropWork := by
  simp [exec, execPinReset, hp]

/-- RESET_N rises on a part that a pin reset holds. -/
theorem exec_pinResetRelease {s : State} (hp : s.power = .held .pin) :
    exec .pinResetRelease s = .next ({ s with pins := { s.pins with resetLow := false } } : State).pinReset := by
  simp [exec, execPinResetRelease, hp]

/-- RESET_N rises on a part that a power-on reset holds, which takes precedence (R165). -/
theorem exec_pinResetRelease_powerOn {s : State} (hp : s.power = .held .powerOn) :
    exec .pinResetRelease s =
      .next (({ s with pins := { s.pins with resetLow := false } } : State).powerOnDefaults .running) := by
  simp [exec, execPinResetRelease, hp]

/-- The ports while a reset holds the part (R186). -/
theorem State.dropWork_port (s : State) (p : Port) : s.dropWork.port p = (s.port p).hold := by cases p <;> rfl

/-- Settles O6: the fall of RESET_N drops the work, its rise gives the values, of a pin reset or of a power-on one. -/
theorem pinResetClearsWorkAndKeepsRecords : Obligations.PinResetClearsWorkAndKeepsRecords := by
  refine ⟨fun s hp => ⟨_, exec_pinReset hp, rfl, fun p => ?_⟩, fun s hp => exec_pinResetRelease hp,
    fun s hp => exec_pinResetRelease_powerOn hp⟩
  rw [State.dropWork_port]
  exact ⟨rfl, rfl, rfl, rfl, by cases p <;> rfl⟩

end Sys2Proof.Machine
end

section
/-! The sensor link's statements (chapter 1): the start of a sweep, what an answer is, a role's read, a tag's read, the
probe and the node access. -/

namespace Sys2Proof.Machine

/-! ### The start of a sweep (R9 to R11) -/

theorem RoleRec.rebound_of_kept {r : RoleRec} {bound : Option (Fin 16)} (h : r.bound = bound) :
    r.rebound bound = r := if_pos h

theorem RoleRec.rebound_of_moved {r : RoleRec} {bound : Option (Fin 16)} (h : r.bound ≠ bound) :
    r.rebound bound = RoleRec.placed bound := if_neg h

/-- A role enters or leaves FAULT by a new binding when it is placed anew in another state than it had (R9, R10). -/
theorem sensorDue_rebound (r : RoleRec) (bound : Option (Fin 16)) :
    sensorDue r.state (r.rebound bound).state = true ↔
      r.bound ≠ bound ∧ ¬(r.state = .fault ↔ bound.isSome = true) := by
  rw [sensorDue_iff]
  by_cases h : r.bound = bound
  · simp [RoleRec.rebound_of_kept h, h]
  · rw [RoleRec.rebound_of_moved h]
    cases bound <;> simp [RoleRec.placed, h]

/-- Settles O9: every role takes its binding, one after another, and the sweep reads those that are bound. -/
theorem sweepStartBindsRolesAndReads : Obligations.SweepStartBindsRolesAndReads := by
  intro s hp hs
  have bound := s.rebind_rebound s.cal.profile.binding
  refine ⟨_, exec_sweepStart hp hs, ?_⟩
  generalize s.rebind s.cal.profile.binding = u at bound ⊢
  refine ⟨?_, bound.ports, ?_, rfl, ?_, ?_, ?_⟩
  · rw [State.modifyLink, bound.frame]
  · rw [State.modifyLink_link, bound.link]
  · intro role kept
    rw [State.modifyLink_link, bound.role, if_pos role.mem_all, RoleRec.rebound_of_kept (not_not.1 kept)]
  · intro role moved
    rw [State.modifyLink_link, bound.role, if_pos role.mem_all, RoleRec.rebound_of_moved moved]
    rfl
  · intro p role
    refine (bound.sensor p role).trans ?_
    rw [sensorDue_rebound]
    simp [role.mem_all]

/-! ### What an answer is (R1, R6) -/

/-- An answer is not received when it is late, fails its check, or carries another address (R1). -/
theorem NodeAnswer.not_received {a : NodeAnswer} {addr : Fin 16}
    (h : 100 < a.micros ∨ a.checkOk = false ∨ a.address ≠ addr) : a.received addr = false := by
  unfold NodeAnswer.received
  rcases h with h | h | h
  · simp [Nat.not_le.2 h]
  · simp [h]
  · simp [h]

theorem nearerLimit_lower {lo hi v : Int} (h : |v - lo| < |v - hi|) : nearerLimit lo hi v = lo := by
  refine if_pos ?_
  rw [Int.abs_eq_natAbs, Int.abs_eq_natAbs] at h
  omega

theorem nearerLimit_upper {lo hi v : Int} (h : |v - hi| ≤ |v - lo|) : nearerLimit lo hi v = hi := by
  refine if_neg ?_
  rw [Int.abs_eq_natAbs, Int.abs_eq_natAbs] at h
  omega

/-- A good answer of a measurement role (R6). -/
theorem judge_measured {role : Role} {a : ReadAnswer} {lo hi : Int} (ht : a.node.type = role.expects)
    (hr : role.range = some (lo, hi)) (hs : a.node.status ≠ .fault) :
    judge role a = .good (some (roleValue lo hi a.node.status a.value).1) (roleValue lo hi a.node.status a.value).2 := by
  simp [judge, ht, hs, hr]

/-- A role value as read (R6). -/
theorem roleValue_ok {lo hi v : Int} :
    (lo ≤ v → v ≤ hi → roleValue lo hi .ok v = (v, false)) ∧
      (lo ≤ hi → hi < v → roleValue lo hi .ok v = (hi, true)) ∧ (v < lo → roleValue lo hi .ok v = (lo, true)) := by
  simp only [roleValue, reduceCtorEq, if_false, clamp]
  refine ⟨fun h h' => ?_, fun h h' => ?_, fun h => ?_⟩
  · rw [if_neg (by omega), if_neg (by omega)]; simp; omega
  · rw [if_neg (by omega), if_pos h']; simp [h']
  · rw [if_pos h]; simp [h]

/-- A role value out of the node's own range (R6). -/
theorem roleValue_overrange (lo hi v : Int) : roleValue lo hi .overrange v = (nearerLimit lo hi v, true) := rfl

/-- A read whose answer is not received ends as one without an answer (R1). -/
theorem exec_readValue_unreceived {s : State} {role : Role} {a : ReadAnswer}
    (h : ∀ addr ∈ (s.link.roles.get role).bound, a.node.received addr = false) :
    exec (.readValue role (some a)) s = exec (.readValue role none) s := by
  by_cases ho : s.power = .running ∧ ∃ sw ∈ s.link.sweep,
      sw.toRead.head? = some role ∧ (s.link.roles.get role).bound.isSome = true
  · obtain ⟨hp, sw, hs, hhead, hbound⟩ := ho
    obtain ⟨rest, hr⟩ := List.head?_eq_some_iff.1 hhead
    obtain ⟨addr, hb⟩ := Option.isSome_iff_exists.1 hbound
    rw [exec_readValue hp hs hr hb, exec_readValue hp hs hr hb, State.readEnds_eq, State.readEnds_eq]
    simp [Option.filter_some, h addr hb]
  · rw [exec_readValue_idle ho, exec_readValue_idle ho]

theorem exec_probe_unreceived {s : State} {a : NodeAnswer} (h : a.received s.link.probePtr = false) :
    exec (.probe (some a)) s = exec (.probe none) s := by
  by_cases ho : s.power = .running ∧ ∃ sw ∈ s.link.sweep, sw.toRead = [] ∧ sw.slot = none
  · obtain ⟨hp, sw, hs, hr, hi⟩ := ho
    rw [exec_probe hp hs hr hi, exec_probe hp hs hr hi, State.probeEnds_eq, State.probeEnds_eq]
    simp [Option.filter_some, h]
  · rw [exec_probe_idle ho, exec_probe_idle ho]

theorem exec_nodeRead_unreceived {s : State} {a : ItemAnswer}
    (h : ∀ x ∈ s.serving, a.node.received x.2.2.address = false) :
    exec (.nodeRead (some a)) s = exec (.nodeRead none) s := by
  by_cases ho : ∃ sw i x, s.power = .running ∧ s.serving = some (sw, i, x) ∧ x.dir = .read
  · obtain ⟨sw, i, x, hp, hv, hd⟩ := ho
    have late : a.node.received x.address = false := h (sw, i, x) hv
    rw [exec_nodeRead hp hv hd, exec_nodeRead hp hv hd]
    simp [Option.filter_some, late]
  · have idle : ∀ sw i x, s.power = .running → s.serving = some (sw, i, x) → x.dir ≠ .read :=
      fun sw i x hp hv hd => ho ⟨sw, i, x, hp, hv, hd⟩
    rw [exec_nodeRead_idle idle, exec_nodeRead_idle idle]

theorem exec_nodeWrite_unreceived {s : State} {a : NodeAnswer}
    (h : ∀ x ∈ s.serving, a.received x.2.2.address = false) :
    exec (.nodeWrite (some a)) s = exec (.nodeWrite none) s := by
  by_cases ho : ∃ sw i x, s.power = .running ∧ s.serving = some (sw, i, x) ∧ x.dir = .write
  · obtain ⟨sw, i, x, hp, hv, hd⟩ := ho
    have late : a.received x.address = false := h (sw, i, x) hv
    rw [exec_nodeWrite hp hv hd, exec_nodeWrite hp hv hd]
    simp [Option.filter_some, late]
  · have idle : ∀ sw i x, s.power = .running → s.serving = some (sw, i, x) → x.dir ≠ .write :=
      fun sw i x hp hv hd => ho ⟨sw, i, x, hp, hv, hd⟩
    rw [exec_nodeWrite_idle idle, exec_nodeWrite_idle idle]

/-- Settles O10: an answer that is not received is filtered out before anything looks at it, and one that is received
is judged by its type, its status and the role's range. -/
theorem answersAreReceivedAndJudged : Obligations.AnswersAreReceivedAndJudged := by
  refine ⟨fun s role a h => exec_readValue_unreceived fun addr hb => NodeAnswer.not_received (h addr hb),
    fun s a h => exec_probe_unreceived (NodeAnswer.not_received h),
    fun s a h => exec_nodeRead_unreceived fun x hx => NodeAnswer.not_received (h x hx),
    fun s a h => exec_nodeWrite_unreceived fun x hx => NodeAnswer.not_received (h x hx),
    fun role a h => ?bad, fun role a lo hi ht hr => ?measured, fun role a hr ht hs => ?tag⟩
  case bad => exact if_neg fun ⟨ht, hs⟩ => h.elim (fun hne => hne ht) hs
  case tag => simp [judge, hr, ht, hs]
  case measured =>
    obtain ⟨inside, above, below⟩ := roleValue_ok (lo := lo) (hi := hi) (v := a.value)
    refine ⟨fun hs h h' => ?_, fun hs h => ?_, fun hs h => ?_, fun hs h => ?_, fun hs h => ?_⟩ <;>
      rw [judge_measured ht hr (by simp [hs]), hs]
    · rw [inside h h']
    · rw [above (Role.range_ordered hr) h]
    · rw [below h]
    · rw [roleValue_overrange, nearerLimit_lower h]
    · rw [roleValue_overrange, nearerLimit_upper h]

/-! ### A role's read (R3, R6 to R9, R13) -/

/-- A measurement role's read fetches no tag (R13). -/
theorem State.tagFetched_of_measurement {s : State} {role : Role} (h : role.side = none) (heard : Option ReadAnswer) :
    s.tagFetched role heard = none := by
  unfold State.tagFetched fetchedTag
  cases heard <;> simp [h]

/-- A tag reader's answer that is good, read-held and leaves its role in OK fetches its tag (R13). -/
theorem State.tagFetched_of_held {s : State} {role : Role} {side : Side} {a : ReadAnswer} (h : role.side = some side)
    (ht : a.node.type = .tag) (hs : a.node.status ≠ .fault) (hh : a.held = true)
    (ho : (s.roleAfter role (some a)).state = .ok) : s.tagFetched role (some a) = some ⟨side, a.tag.toNat⟩ := by
  have good : readResult role (some a) = .good none false := by
    change judge role a = _
    cases role <;> simp [Role.side] at h <;> simp [judge, ht, hs, Role.expects, Role.range]
  simp [State.tagFetched, fetchedTag, h, good, hh, ho]

/-- Any other answer fetches none (R13). -/
theorem State.tagFetched_of_not_held {s : State} {role : Role} {heard : Option ReadAnswer}
    (h : ∀ a ∈ heard, a.node.type ≠ role.expects ∨ a.node.status = .fault ∨ a.held = false ∨
      (s.roleAfter role heard).state ≠ .ok) : s.tagFetched role heard = none := by
  cases heard with
  | none => rfl
  | some a =>
    change fetchedTag role _ (judge role a) a = none
    unfold fetchedTag
    split
    · rename_i side v m hs hj
      refine if_neg fun ⟨hh, ho⟩ => ?_
      have good : a.node.type = role.expects ∧ a.node.status ≠ .fault := by
        by_contra hb
        rw [judge, if_neg hb] at hj
        cases hj
      rcases h a rfl with hne | hf | hn | hne
      · exact hne good.1
      · exact good.2 hf
      · rw [hn] at hh; cases hh
      · exact hne ho
    · rfl

/-- A good answer moves a role by the table of R7. -/
theorem RoleRec.after_good (r : RoleRec) (v : Option Int) (m : Bool) :
    (r.state = .ok ∨ r.state = .hold → r.after (.good v m) = r.enterOk v) ∧
      (r.state = .fault → r.recoveries < 4 → r.after (.good v m) = { r with recoveries := r.recoveries + 1 }) ∧
      (r.state = .fault → r.recoveries = 4 → r.after (.good v m) = r.enterOk v) := by
  refine ⟨?_, fun h hn => ?_, fun h hn => ?_⟩
  · rintro (h | h) <;> simp [RoleRec.after, h]
  · simp only [RoleRec.after, h]
    exact if_pos (by omega)
  · simp only [RoleRec.after, h]
    exact if_neg (by omega)

/-- A miss moves a role by the table of R7. -/
theorem RoleRec.after_miss (r : RoleRec) :
    (r.state = .ok → r.after .miss = { r with state := .hold, misses := 1 }) ∧
      (r.state = .hold → r.misses < 2 → r.after .miss = { r with misses := r.misses + 1 }) ∧
      (r.state = .hold → r.misses = 2 → r.after .miss = r.enterFault) ∧
      (r.state = .fault → r.after .miss = { r with recoveries := 0 }) := by
  refine ⟨fun h => by simp [RoleRec.after, h], fun h hn => ?_, fun h hn => ?_, fun h => by simp [RoleRec.after, h]⟩
  · simp only [RoleRec.after, h]
    exact if_pos (by omega)
  · simp only [RoleRec.after, h]
    exact if_neg (by omega)

/-- A bad answer moves a role by the table of R7. -/
theorem RoleRec.after_bad (r : RoleRec) :
    (r.state = .ok ∨ r.state = .hold → r.after .bad = r.enterFault) ∧
      (r.state = .fault → r.after .bad = { r with recoveries := 0 }) := by
  refine ⟨?_, fun h => by simp [RoleRec.after, h]⟩
  rintro (h | h) <;> simp [RoleRec.after, h]

/-- The presence map behind a read (R3). -/
theorem ReadEnded.presence {s t : State} {sw : Sweep} {rest : List Role} {role : Role} {addr : Fin 16}
    {heard : Option ReadAnswer} (h : ReadEnded s t sw rest role addr heard) :
    (∀ a ∈ heard, t.link.presence = s.link.presence.set addr ⟨true, some a.node.type, 0⟩) ∧
      (heard = none → t.link.presence = s.link.presence) := by
  rw [h.link]
  refine ⟨?_, ?_⟩
  · rintro a rfl; rfl
  · rintro rfl; rfl

/-- The roles behind a read (R7). -/
theorem ReadEnded.role {s t : State} {sw : Sweep} {rest : List Role} {role : Role} {addr : Fin 16}
    {heard : Option ReadAnswer} (h : ReadEnded s t sw rest role addr heard) :
    t.link.roles.get role = s.roleAfter role heard ∧ ∀ q, q ≠ role → t.link.roles.get q = s.link.roles.get q := by
  rw [h.link]
  exact ⟨by simp, fun q hq => Roles.get_modify_ne _ _ hq⟩

/-- The notices of a read (R9). -/
theorem ReadEnded.notices {s t : State} {sw : Sweep} {rest : List Role} {role : Role} {addr : Fin 16}
    {heard : Option ReadAnswer} (h : ReadEnded s t sw rest role addr heard) :
    (((s.link.roles.get role).state = .fault ↔ (s.roleAfter role heard).state = .fault) → t.ports = s.ports) ∧
      (¬((s.link.roles.get role).state = .fault ↔ (s.roleAfter role heard).state = .fault) →
        noticedBoth s t .sensor ∧ ∀ p, (t.port p).pacer.sensorRoles.get role = true) := by
  rw [← sensorDue_iff]
  refine ⟨fun same => ?_, fun due => ?_⟩
  · have notDue := mt (sensorDue_iff _ _).1 (not_not.2 same)
    have port : ∀ p, t.port p = s.port p := fun p => by rw [h.port, if_neg notDue]
    have ext : ∀ x : Ports PortBlock, x = ⟨x.get .cab, x.get .fleet⟩ := fun _ => rfl
    rw [ext t.ports, ext s.ports]
    exact congr (congrArg Ports.mk (port .cab)) (port .fleet)
  · have pacer : ∀ p, (t.port p).pacer = (s.port p).pacer.raise (.sensor role) := fun p => by
      rw [h.port, if_pos due]; rfl
    refine ⟨⟨?_, ?_⟩, fun p => ?_⟩
    · rw [noticed, pacer, Pacer.count_raise]; rfl
    · rw [noticed, pacer, Pacer.count_raise]; rfl
    · rw [pacer, Pacer.sensorRoles_raise]; simp

/-- What a read answers of a sweep and the zero tags when it fetches no tag. -/
theorem ReadEnded.no_tag {s t : State} {sw : Sweep} {rest : List Role} {role : Role} {addr : Fin 16}
    {heard : Option ReadAnswer} (h : ReadEnded s t sw rest role addr heard) (hn : s.tagFetched role heard = none) :
    t.link.sweep.map (fun w => w.tags) = some sw.tags ∧ t.link.zeroTags = s.link.zeroTags := by
  obtain ⟨tags, hs, hnone, _⟩ := h.sweep
  obtain ⟨rfl, hz⟩ := hnone hn
  exact ⟨by rw [hs]; rfl, hz⟩

/-- Settles O11: a read's end is `ReadEnded`, and the role moves by the tables of R7 and R8. -/
theorem roleReadMovesRole : Obligations.RoleReadMovesRole := by
  intro s sw rest role addr reply hp hs hr hb
  have ended := s.readEnds_ended sw rest role addr reply
  obtain ⟨hrole, hothers⟩ := ended.role
  obtain ⟨hanswered, hunanswered⟩ := ended.presence
  obtain ⟨hquiet, hnoticed⟩ := ended.notices
  refine ⟨_, exec_readValue hp hs hr hb reply, ended.frame, fun p => ?samePorts, ?link, ?sweep, fun hl hr => ?tags,
    hothers, hanswered, hunanswered, fun v m hres => ?good, fun hres => ?miss, fun hres => ?bad, ?_, ?_⟩
  case samePorts => rw [ended.port]; split <;> rfl
  case link => rw [ended.link]
  case sweep =>
    obtain ⟨tags, hsweep, _⟩ := ended.sweep
    refine ⟨tags, hsweep.trans ?_⟩
    cases hres : readResult role (reply.filter fun a => a.node.received addr) <;>
      simp [Sweep.afterRead, hres, ReadResult.marker]
  case tags =>
    refine ended.no_tag (State.tagFetched_of_measurement ?_ _)
    revert hl hr
    cases role <;> simp [Role.side]
  case good => rw [hrole, State.roleAfter, hres]; exact RoleRec.after_good _ v m
  case miss => rw [hrole, State.roleAfter, hres]; exact RoleRec.after_miss _
  case bad => rw [hrole, State.roleAfter, hres]; exact RoleRec.after_bad _
  · rw [hrole]; exact hquiet
  · rw [hrole]; exact hnoticed

/-- Settles O12: what a tag reader's read fetches is what its sweep and the zero tags take. -/
theorem tagReadBecomesTagEvent : Obligations.TagReadBecomesTagEvent := by
  intro s sw rest side addr reply role hp hs hr hb
  have ended := s.readEnds_ended sw rest role addr reply
  obtain ⟨hrole, _⟩ := ended.role
  have hside : role.side = some side := by cases side <;> rfl
  have hexpects : role.expects = .tag := by cases side <;> rfl
  refine ⟨_, exec_readValue hp hs hr hb reply, ?_, ?_⟩
  · intro a ha ht hst hh ho
    rw [hrole, Option.mem_def.1 ha] at ho
    have fetched := State.tagFetched_of_held hside ht hst hh ho
    obtain ⟨tags, hsweep, _, hzero, htag⟩ := ended.sweep
    rw [Option.mem_def.1 ha] at hzero htag hsweep
    refine ⟨fun hne => ?_, fun he => ?_⟩
    · obtain ⟨rfl, hz⟩ := htag _ fetched (by simpa [BitVec.toNat_eq] using hne)
      exact ⟨by rw [hsweep]; rfl, hz⟩
    · obtain ⟨rfl, hz⟩ := hzero _ fetched (by simp [he])
      exact ⟨by rw [hsweep]; rfl, hz⟩
  · intro h
    refine ended.no_tag (State.tagFetched_of_not_held fun a ha => ?_)
    rw [hexpects, ← hrole]
    exact h a ha

end Sys2Proof.Machine
end

section
/-! The last transactions of a sweep (R3, R4, R15), and the requests about the slots (R14, R16). -/

namespace Sys2Proof.Machine

/-! ### The notices of a record: OVERLOAD alone (R32) -/

/-- Every pending count but OVERLOAD's is as it was. -/
abbrev countsKept (s t : State) : Prop :=
  ∀ p k, k ≠ .overload → (t.port p).pacer.count k = (s.port p).pacer.count k

theorem countsKept.of_ports {s t : State} (h : t.ports = s.ports) : countsKept s t :=
  fun p _ _ => by rw [State.port_of_ports h]

theorem countsKept.trans {s t u : State} (h : countsKept s t) (h' : countsKept t u) : countsKept s u :=
  fun p k hk => (h' p k hk).trans (h p k hk)

@[simp] theorem State.discardCapture_ports (s : State) : s.discardCapture.ports = s.ports := by
  unfold State.discardCapture
  split <;> simp

@[simp] theorem State.forcedIdle_ports (s : State) : s.forcedIdle.ports = s.ports := by
  unfold State.forcedIdle
  dsimp only
  split <;> simp

@[simp] theorem State.dump_ports (s : State) (r : SweepRecord) : (s.dump r).ports = s.ports := by
  unfold State.dump
  dsimp only
  split
  · split <;> simp
  · simp

@[simp] theorem State.abandonCheck_ports (s : State) : s.abandonCheck.ports = s.ports := rfl

@[simp] theorem State.endCaptureLift_ports (s : State) : s.endCaptureLift.ports = s.ports := by
  unfold State.endCaptureLift
  split <;> simp

@[simp] theorem State.endZeroing_ports (s : State) : s.endZeroing.ports = s.ports := by
  unfold State.endZeroing
  split <;> simp

@[simp] theorem State.endCheck_ports (s : State) : s.endCheck.ports = s.ports := by
  unfold State.endCheck
  dsimp only
  split
  · split <;> simp
  · simp

@[simp] theorem State.startReweigh_ports (s : State) : s.startReweigh.ports = s.ports := by
  unfold State.startReweigh
  dsimp only
  split <;> simp

@[simp] theorem State.recordBoom_ports (pre s : State) (r : SweepRecord) : (pre.recordBoom r s).ports = s.ports := by
  rw [State.recordBoom_eq]

@[simp] theorem State.direct_ports (s : State) (armed : Bool) (rate : Option Int) (r : SweepRecord) :
    (s.direct armed rate r).ports = s.ports := by
  rw [State.direct_eq]

theorem State.overloadCheck_counts (s : State) (net : Nat) (d : Side) : countsKept s (s.overloadCheck net d) := by
  intro p k hk
  have raised : ∀ t : State, ((t.raise (.overload d)).port p).pacer.count k = (t.port p).pacer.count k := fun t => by
    rw [State.count_raise, if_neg fun h => hk h.1]
  unfold State.overloadCheck
  dsimp only
  split
  case h_4 => rfl
  case h_5 => rfl
  all_goals
    split
    · exact raised _
    · rfl

theorem State.enterCarry_counts (s : State) : countsKept s s.enterCarry := by
  unfold State.enterCarry
  dsimp only
  split
  · exact .of_ports rfl
  · have carried : countsKept s (s.modifyTracker fun t =>
        { t with cycle := .carry, held := some (heldAfter t.held s.windowResult) }) := .of_ports rfl
    exact carried.trans ((State.overloadCheck_counts _ _ .left).trans (State.overloadCheck_counts _ _ .right))

theorem State.boomTransition_counts (s : State) (boom : Int) : countsKept s (s.boomTransition boom) := by
  have window : countsKept s s.endWindow := by
    unfold State.endWindow
    split
    · exact .of_ports s.endZeroing_ports
    · exact s.enterCarry_counts
  unfold State.boomTransition
  dsimp only
  split
  case h_4 =>
    split
    · exact .of_ports (by simp)
    · split
      · exact .of_ports rfl
      · split
        · exact .of_ports rfl
        · exact window
  all_goals (repeat' split) <;> exact .of_ports (by simp [State.enterDig])

theorem State.changeCycle_counts (s : State) (r : SweepRecord) : countsKept s (s.changeCycle r) := by
  unfold State.changeCycle
  dsimp only
  split
  · split <;> exact .of_ports (by simp)
  · split
    · split <;> exact .of_ports (by simp)
    · split
      · exact .of_ports (by simp)
      · exact s.boomTransition_counts _

theorem State.takeSteps_counts (s : State) (r : SweepRecord) : countsKept s (s.takeSteps r) :=
  (s.changeCycle_counts r).trans (.of_ports (by simp [State.takeSteps]))

/-- A record counts no notice but OVERLOAD (R32). -/
theorem State.takeRecord_counts (s : State) (r : SweepRecord) : countsKept s (s.takeRecord r) := by
  rcases s.takeRecord_cases r with ⟨_, h⟩ | ⟨_, h⟩ | ⟨_, h⟩ <;> rw [h]
  · exact s.takeSteps_counts r
  · have aborted : countsKept s (State.abortCapture { s with openChoice := s.openChoice + 1 }) := .of_ports (by simp)
    exact aborted.trans (State.takeSteps_counts _ r)
  · have taken : countsKept s (State.takeSteps { s with openChoice := s.openChoice + 1 } r) := State.takeSteps_counts _ r
    exact taken.trans (.of_ports (by simp))

/-- The end of a sweep counts no notice but OVERLOAD (R32). -/
theorem State.endSweep_counts (s : State) (sw : Sweep) : countsKept s (s.endSweep sw) := by
  obtain ⟨k, n, h⟩ := s.endSweep_eq sw
  rw [h]
  exact s.sweepOver.takeRecord_counts _

/-! ### The probe (R3, R4, R15) -/

/-- The record of a sweep speaks of the roles alone (R12). -/
theorem sweepRecord_congr {l m : Link} (h : m.roles = l.roles) (sw : Sweep) : sweepRecord m sw = sweepRecord l sw := by
  simp [sweepRecord, readingOf, h]

/-- The slot to serve: the other than the last when it is ARMED, the last when only that one is, and none when none is
(R15). -/
theorem Link.toServe_spec (l : Link) :
    (l.slots[(1 - l.lastServed : Fin 2)].isArmed = true → l.toServe = some (1 - l.lastServed)) ∧
      (l.slots[(1 - l.lastServed : Fin 2)].isArmed = false → l.slots[l.lastServed].isArmed = true →
        l.toServe = some l.lastServed) ∧
      ((∀ i : Fin 2, l.slots[i].isArmed = false) → l.toServe = none) := by
  unfold Link.toServe
  refine ⟨fun h => if_pos h, fun h h' => ?_, fun h => ?_⟩
  · rw [if_neg (Bool.eq_false_iff.1 h), if_pos h']
  · rw [if_neg (Bool.eq_false_iff.1 (h _)), if_neg (Bool.eq_false_iff.1 (h _))]

/-- What a probe's end leaves of the link, whether the sweep goes on or ends. -/
theorem State.probeEnds_link (s : State) (sw : Sweep) (reply : Option NodeAnswer) :
    let heard := reply.filter fun a => a.received s.link.probePtr
    ∃ last sweep, (s.probeEnds sw reply).link = { s.link with
      presence := (s.probed heard).link.presence, probePtr := s.link.probePtr + 1, lastServed := last,
      sweep := sweep } := by
  dsimp only
  rw [State.probeEnds_eq]
  split
  · exact ⟨_, _, by rw [State.modifyLink_link, State.probed_eq]⟩
  · exact ⟨_, _, by rw [State.endSweep_link, State.probed_eq]⟩

/-- A probe behind which the sweep goes on to a slot (R15). -/
theorem State.probeEnds_serves {s : State} {i : Fin 2} (h : s.link.toServe = some i) (sw : Sweep)
    (reply : Option NodeAnswer) : (s.probeEnds sw reply).link.sweep = some { sw with slot := some i } ∧
      (s.probeEnds sw reply).link.lastServed = i ∧
      s.probeEnds sw reply = { s with link := (s.probeEnds sw reply).link } := by
  rw [State.probeEnds_eq, h]
  refine ⟨rfl, rfl, ?_⟩
  dsimp only
  rw [State.modifyLink, State.probed_eq]

/-- A probe behind which the sweep ends (R11, R12). -/
theorem State.probeEnds_over {s : State} (h : s.link.toServe = none) (sw : Sweep) (reply : Option NodeAnswer) :
    (s.probeEnds sw reply).link.sweep = none ∧ (s.probeEnds sw reply).link.lastServed = s.link.lastServed ∧
      (s.probeEnds sw reply).tracker.prevRecord = some (sweepRecord s.link sw) := by
  rw [State.probeEnds_eq, h]
  dsimp only
  rw [State.endSweep_link, State.endSweep_prevRecord]
  refine ⟨rfl, by rw [State.probed_eq], congrArg some (sweepRecord_congr ?_ sw)⟩
  rw [State.probed_eq]

/-- Settles O13: the probe moves the map and the pointer alone, and the slots say what the sweep does next. -/
theorem probeUpdatesPresenceAndServesSlot : Obligations.ProbeUpdatesPresenceAndServesSlot := by
  intro s sw reply hp hs hr hi addr e heard other
  obtain ⟨hother, hlast, hnone⟩ := s.link.toServe_spec
  obtain ⟨last, sweep, hlink⟩ := s.probeEnds_link sw reply
  refine ⟨_, exec_probe hp hs hr hi reply, ?_, by rw [hlink], by rw [hlink], by rw [hlink], by rw [hlink], ?_, ?_, ?_,
    fun h => State.probeEnds_serves (hother h) sw reply, fun h h' => State.probeEnds_serves (hlast h h') sw reply,
    fun h => State.probeEnds_over (hnone h) sw reply⟩
  · rw [hlink]; exact Fin.val_add _ _
  · intro a (ha : heard = some a)
    rw [hlink]
    change (s.probed heard).link.presence = _
    rw [ha, State.probed_presence_of_answer]
  · intro hn hm
    rw [hlink]
    change (s.probed heard).link.presence = _
    rw [hn, State.probed_presence_of_miss]
    exact congrArg (s.link.presence.set addr) (if_pos (show e.missed + 1 < 3 by omega))
  · intro hn hm
    rw [hlink]
    change (s.probed heard).link.presence = _
    rw [hn, State.probed_presence_of_miss]
    exact congrArg (s.link.presence.set addr) (if_neg (show ¬e.missed + 1 < 3 by omega))

/-! ### The node access (R15) -/

/-- What the end of a node access leaves. -/
theorem State.serveEnds_spec (s : State) (sw : Sweep) (i : Fin 2) (a : Access) (seen : Option NodeType)
    (x : AccessResult) :
    (s.serveEnds sw i a seen x).link = { s.link with
      presence := (s.hears a.address seen).link.presence, slots := s.link.slots.set i (.done a x), sweep := none } ∧
    noticed s (s.serveEnds sw i a seen x) .fleet .node ∧
    ((s.serveEnds sw i a seen x).port .cab).pacer.count .node = (s.port .cab).pacer.count .node ∧
    (s.serveEnds sw i a seen x).tracker.prevRecord = some (sweepRecord s.link sw) := by
  have hears := s.hears_eq a.address seen
  rw [State.serveEnds_hears]
  generalize s.hears a.address seen = u at hears ⊢
  have port : ∀ p, u.port p = s.port p := fun p => by rw [hears]; rfl
  refine ⟨?_, ?_, ?_, ?_⟩
  · rw [State.endSweep_link, State.raise_link, State.modifyLink_link, hears]
  · rw [noticed, State.endSweep_counts _ sw .fleet .node (by decide), State.count_raise, ← port]
    rfl
  · rw [State.endSweep_counts _ sw .cab .node (by decide), State.count_raise, ← port]
    rfl
  · rw [State.endSweep_prevRecord]
    refine congrArg some (sweepRecord_congr ?_ sw)
    rw [State.raise_link, hears]
    rfl

/-- Settles O14: both directions end in the same service, with what came back as its result. -/
theorem nodeAccessIsServed : Obligations.NodeAccessIsServed := by
  refine ⟨fun s sw i a reply hp hs hi ha hd => ?read, fun s sw i a reply hp hs hi ha hd => ?write⟩
  case read =>
    refine ⟨_, exec_nodeRead hp (State.serving_eq_some.2 ⟨hs, hi, ha⟩) hd reply, ?_⟩
    generalize reply.filter (fun b => b.node.received a.address) = heard
    obtain ⟨hlink, hfleet, hcab, hrecord⟩ :=
      s.serveEnds_spec sw i a (heard.map fun b => b.node.type) (readOutcome heard)
    refine ⟨by rw [hlink], by rw [hlink], hfleet, hcab, hrecord, ?_, ?_⟩
    · rintro b rfl
      rw [hlink]
      exact ⟨rfl, rfl⟩
    · rintro rfl
      rw [hlink]
      exact ⟨rfl, rfl⟩
  case write =>
    refine ⟨_, exec_nodeWrite hp (State.serving_eq_some.2 ⟨hs, hi, ha⟩) hd reply, ?_⟩
    generalize reply.filter (fun b => b.received a.address) = heard
    obtain ⟨hlink, hfleet, hcab, hrecord⟩ := s.serveEnds_spec sw i a (heard.map fun b => b.type) (writeOutcome heard)
    refine ⟨by rw [hlink], by rw [hlink], hfleet, hcab, hrecord, ?_, ?_⟩
    · rintro b rfl
      rw [hlink]
      exact ⟨rfl, rfl⟩
    · rintro rfl
      rw [hlink]
      exact ⟨rfl, rfl⟩

/-! ### NODE_ACCESS and NODE_RESULT (R14, R16) -/

theorem directionOf_lt {n : Nat} (h : n < 2) : directionOf n = some (if n = 0 then .read else .write) := by
  interval_cases n <;> rfl

theorem directionOf_ge {n : Nat} (h : 2 ≤ n) : directionOf n = none := by
  unfold directionOf
  split
  · omega
  · omega
  · rfl

/-- The lowest FREE slot (R14). -/
theorem Link.freeSlot_spec (l : Link) :
    (l.slots[(0 : Fin 2)] = .free → l.freeSlot = some 0) ∧
      (l.slots[(0 : Fin 2)] ≠ .free → l.slots[(1 : Fin 2)] = .free → l.freeSlot = some 1) ∧
      (l.slots[(0 : Fin 2)] ≠ .free → l.slots[(1 : Fin 2)] ≠ .free → l.freeSlot = none) := by
  unfold Link.freeSlot Slot.isFree
  refine ⟨fun h => ?_, fun h h' => ?_, fun h h' => ?_⟩
  · rw [if_pos (by simp [h])]
  · rw [if_neg (by simpa using h), if_pos (by simp [h'])]
  · rw [if_neg (by simpa using h), if_neg (by simpa using h')]

/-- The access that a NODE_ACCESS payload spells, once its fields have passed (R14). -/
abbrev accessOf (payload : List Byte) (ha : natAt payload 0 1 < 16) (hi : natAt payload 1 1 < 64) : Access :=
  ⟨⟨natAt payload 0 1, ha⟩, ⟨natAt payload 1 1, hi⟩, if natAt payload 2 1 = 0 then .read else .write,
    BitVec.ofNat 16 (natAt payload 3 2)⟩

/-- A NODE_ACCESS whose fields pass arms the slot that is free (R14). -/
theorem nodeAccessWork_armed {payload : List Byte} {s : State} {i : Fin 2} (ha : natAt payload 0 1 < 16)
    (hi : natAt payload 1 1 < 64) (hd : natAt payload 2 1 < 2) (hf : s.link.freeSlot = some i) :
    nodeAccessWork payload s =
      ({ s with link := { s.link with slots := s.link.slots.set i (.armed (accessOf payload ha hi)) } },
        ⟨.accepted, be 1 i.val⟩) := by
  simp only [nodeAccessWork, ha, hi, dif_pos, directionOf_lt hd, hf]
  rfl

theorem nodeAccessWork_busy {payload : List Byte} {s : State} (ha : natAt payload 0 1 < 16)
    (hi : natAt payload 1 1 < 64) (hd : natAt payload 2 1 < 2) (hf : s.link.freeSlot = none) :
    nodeAccessWork payload s = (s, .busy 2) := by
  simp only [nodeAccessWork, ha, hi, dif_pos, directionOf_lt hd, hf]

/-- A NODE_ACCESS with a field out of range changes nothing (R14). -/
theorem nodeAccessWork_range (payload : List Byte) (s : State) :
    (16 ≤ natAt payload 0 1 → nodeAccessWork payload s = (s, .range 1)) ∧
      (natAt payload 0 1 < 16 → 64 ≤ natAt payload 1 1 → nodeAccessWork payload s = (s, .range 2)) ∧
      (natAt payload 0 1 < 16 → natAt payload 1 1 < 64 → 2 ≤ natAt payload 2 1 →
        nodeAccessWork payload s = (s, .range 3)) := by
  refine ⟨fun h => ?_, fun ha h => ?_, fun ha hi h => ?_⟩
  · exact dif_neg (Nat.not_lt.2 h)
  · exact (dif_pos ha).trans (dif_neg (Nat.not_lt.2 h))
  · simp only [nodeAccessWork, ha, hi, dif_pos, directionOf_ge h]

/-- A NODE_RESULT of a slot that exists answers by the slot's state (R16). -/
theorem nodeResultWork_slot {payload : List Byte} (s : State) {i : Fin 2} (h : natAt payload 0 1 = i.val) :
    (s.link.slots[i] = .free → nodeResultWork payload s = (s, ⟨.state, [0x10]⟩)) ∧
      (∀ a, s.link.slots[i] = .armed a → nodeResultWork payload s = (s, ⟨.state, [0x11]⟩)) ∧
      (∀ a x, s.link.slots[i] = .done a x → nodeResultWork payload s =
        ({ s with link := { s.link with slots := s.link.slots.set i .free } }, ⟨.ok, a.bytes ++ x.bytes⟩)) := by
  have exists' : natAt payload 0 1 < 2 := h ▸ i.isLt
  have named : (⟨natAt payload 0 1, exists'⟩ : Fin 2) = i := Fin.ext h
  simp only [nodeResultWork, exists', dif_pos, named]
  refine ⟨fun hs => ?_, fun a hs => ?_, fun a x hs => ?_⟩ <;> rw [hs]
  · rfl
  · rfl
  · simp [State.modifyLink, h, Reply.ok]

/-- Settles O15: field by field for NODE_ACCESS, and by the slot's state for NODE_RESULT. -/
theorem nodeAccessRequestsArmAndFreeSlots : Obligations.NodeAccessRequestsArmAndFreeSlots := by
  refine ⟨fun s r rest ho => ?access, fun s r rest ho => ?result⟩
  case access =>
    have answers : ∀ {t status payload}, nodeAccessWork r.payload (s.granted .fleet rest) = (t, ⟨status, payload⟩) →
        (∃ l, t = { s.granted .fleet rest with link := l }) →
        exec (.nodeAccess .fleet) s = .next (t.answered .fleet r status payload) := by
      rintro t status payload hw ⟨l, rfl⟩
      exact ho.answers none rfl hw rfl rfl rfl
    obtain ⟨haddress, hitem, hdir⟩ := nodeAccessWork_range r.payload (s.granted .fleet rest)
    obtain ⟨hzero, hone, hfull⟩ := (s.granted .fleet rest).link.freeSlot_spec
    refine ⟨fun h => answers (haddress h) ⟨_, rfl⟩, fun ha h => answers (hitem ha h) ⟨_, rfl⟩,
      fun ha hi h => answers (hdir ha hi h) ⟨_, rfl⟩, fun ha hi hd => ⟨fun h => ?_, fun h h' => ?_, fun h h' => ?_⟩⟩
    · exact answers (nodeAccessWork_armed ha hi hd (hzero h)) ⟨_, rfl⟩
    · exact answers (nodeAccessWork_armed ha hi hd (hone h h')) ⟨_, rfl⟩
    · exact answers (nodeAccessWork_busy ha hi hd (hfull h h')) ⟨_, rfl⟩
  case result =>
    have answers : ∀ {t status payload}, nodeResultWork r.payload (s.granted .fleet rest) = (t, ⟨status, payload⟩) →
        (∃ l, t = { s.granted .fleet rest with link := l }) →
        exec (.nodeResult .fleet) s = .next (t.answered .fleet r status payload) := by
      rintro t status payload hw ⟨l, rfl⟩
      exact ho.answers none rfl hw rfl rfl rfl
    refine ⟨fun h => answers (dif_neg (Nat.not_lt.2 h)) ⟨_, rfl⟩, fun i hi => ?_⟩
    obtain ⟨hfree, harmed, hdone⟩ := nodeResultWork_slot (s.granted .fleet rest) hi
    exact ⟨fun h => answers (hfree h) ⟨_, rfl⟩, fun a h => answers (harmed a h) ⟨_, rfl⟩,
      fun a x h => answers (hdone a x h) ⟨_, rfl⟩⟩

/-! ### The reports that zero (R17, R180, R183) -/

/-- Settles O32: each of the three works changes its counters alone, so that the grant ends as the work leaves it. -/
theorem reportsZeroWhatTheyReport : Obligations.ReportsZeroWhatTheyReport := by
  intro s p r rest g
  refine ⟨fun ho => ho.answers none rfl rfl rfl rfl rfl, fun ho => ho.answers none rfl rfl rfl rfl rfl,
    fun ho => ?collect⟩
  case collect =>
    have pacer : (g.port p).pacer = (s.port p).pacer := by simp [g, State.granted, State.port]
    have ports : g.ports.modify p (fun b => b.modifyPacer Pacer.collect) = g.ports.modify p fun b =>
        { b with pacer :=
          { pending := Vector.replicate 12 0, passBays := ⟨false, false⟩, bayBays := ⟨false, false⟩,
            overloadBays := ⟨false, false⟩, sensorRoles := Roles.all false, enables := (s.port p).pacer.enables,
            interval := (s.port p).pacer.interval, timer := (s.port p).pacer.timer, line := false } } := by
      cases p <;> rfl
    refine ho.answers none rfl ?_ rfl rfl rfl
    rw [← ports]
    change (_, Reply.ok (g.port p).pacer.figures) = _
    rw [pacer]
    rfl

end Sys2Proof.Machine
end

section
/-! The cycle state (chapter 2): what a record's change of it does, transition by transition, and what the end of a
sweep makes of the change. -/

namespace Sys2Proof.Machine

/-! ### Words about a record's change (R22) -/

/-- The bucket dumps, in a state in which that counts (R22, step 2). -/
abbrev dumpSeen (s : State) (r : SweepRecord) : Prop :=
  r.bucket.number ≤ s.cal.profile.dumpAngle ∧ (cycling s.tracker.cycle ∨ s.tracker.cycle = .check)

/-- The record ends a capture lift, when capture is armed (R44). -/
abbrev captureEnds (s : State) (r : SweepRecord) : Prop :=
  (s.tracker.cycle = .lift ∨ s.tracker.cycle = .weigh) ∧ s.cal.profile.truckAngle ≤ r.boom.number

/-- A change to a cycle state that hands these outcomes, leaves the capture mode, empties the capture bins at most when
capture is armed, and restarts the cycle timer exactly on the entry to DIG from IDLE or RETURN (R22, R26, R45, R46). -/
structure CycleChange (s u : State) (c : CycleState) (outcomes : List Item) : Prop where
  cycle : u.tracker.cycle = c
  items : u.arb.items = s.arb.items ++ outcomes
  capture : u.tracker.capture = s.tracker.capture
  bins : s.tracker.capture = none → u.weigh.bins = s.weigh.bins
  timer : u.tracker.timer =
    if (s.tracker.cycle = .idle ∨ s.tracker.cycle = .ret) ∧ c = .dig then 0 else s.tracker.timer

/-- No change at all. -/
theorem CycleChange.stay {s : State} {c : CycleState} (h : s.tracker.cycle = c) : CycleChange s s c [] := by
  subst h
  refine ⟨rfl, by simp, rfl, fun _ => rfl, (if_neg ?_).symm⟩
  rintro ⟨h | h, hd⟩ <;> rw [h] at hd <;> cases hd

/-- A change to another state than DIG that hands nothing. -/
theorem CycleChange.quiet {s u : State} {c : CycleState} (hd : c ≠ .dig) (hc : u.tracker.cycle = c)
    (hi : u.arb.items = s.arb.items) (hk : u.tracker.capture = s.tracker.capture) (hb : u.weigh.bins = s.weigh.bins)
    (ht : u.tracker.timer = s.tracker.timer) : CycleChange s u c [] :=
  ⟨hc, by simp [hi], hk, fun _ => hb, by simp [hd, ht]⟩

/-- An outcome handed after a change that hands nothing else. -/
theorem CycleChange.handed {s u : State} {c : CycleState} {i : Item} (h : CycleChange s u c []) :
    CycleChange s (u.hand i) c [i] :=
  ⟨h.cycle, by simpa [State.hand] using h.items, h.capture, h.bins, h.timer⟩

/-! ### The bins of an armed capture (R45) -/

theorem State.discardCapture_eq (s : State) :
    s.discardCapture = { s with weigh := { s.weigh with bins :=
      if s.tracker.capture.isSome then noForces else s.weigh.bins } } := by
  unfold State.discardCapture
  split <;> rfl

/-- A discard of the bins before a change is part of the change. -/
theorem CycleChange.discard {s u : State} {c : CycleState} {outcomes : List Item}
    (h : CycleChange s.discardCapture u c outcomes) : CycleChange s u c outcomes := by
  rw [State.discardCapture_eq] at h
  exact ⟨h.cycle, h.items, h.capture, fun hn => by rw [h.bins hn]; simp [hn], h.timer⟩

/-! ### The role gate and the dump (R23, R33, R38) -/

theorem State.forcedIdle_change (s : State) :
    CycleChange s s.forcedIdle .idle (if cycling s.tracker.cycle then [.lostCycle] else []) := by
  have inProgress : s.tracker.cycle.inProgress = true ↔ cycling s.tracker.cycle := by
    cases s.tracker.cycle <;> simp [CycleState.inProgress, cycling]
  unfold State.forcedIdle
  dsimp only
  split
  · rename_i h
    rw [if_pos (inProgress.1 h)]
    exact .handed (.discard (.quiet (by decide) rfl rfl rfl rfl rfl))
  · rename_i h
    rw [if_neg (mt inProgress.2 h)]
    exact .discard (.quiet (by decide) rfl rfl rfl rfl rfl)

theorem State.forcedIdle_prevBoom (s : State) : s.forcedIdle.tracker.prevBoom = none := by
  unfold State.forcedIdle
  dsimp only
  split <;> rfl

/-- A dump hands one outcome (R33). -/
theorem State.dump_change (s : State) (r : SweepRecord) : ∃ i, CycleChange s (s.dump r) .ret [i] := by
  unfold State.dump
  dsimp only
  split
  · split
    · exact ⟨_, .handed (.discard (.quiet (by decide) rfl rfl rfl rfl rfl))⟩
    · exact ⟨_, .handed (.discard (.quiet (by decide) rfl rfl rfl rfl rfl))⟩
  · exact ⟨_, .handed (.discard (.quiet (by decide) rfl rfl rfl rfl rfl))⟩

theorem State.abandonCheck_change (s : State) : CycleChange s s.abandonCheck .ret [] :=
  .quiet (by decide) rfl rfl rfl rfl rfl

/-! ### The boom transitions (R24, R27, R31, R37 to R39) -/

theorem State.enterDig_change {s : State} (h : s.tracker.cycle = .idle ∨ s.tracker.cycle = .ret) :
    CycleChange s s.enterDig .dig [] :=
  ⟨rfl, by simp [State.enterDig], rfl, fun _ => rfl, (if_pos ⟨h, rfl⟩).symm⟩

/-- A change of the cycle state only, after a clear or a discard or none, from a state other than IDLE and RETURN or to
one other than DIG. -/
theorem State.goTo_change {s : State} {c : CycleState}
    (h : ¬((s.tracker.cycle = .idle ∨ s.tracker.cycle = .ret) ∧ c = .dig)) : CycleChange s (s.goTo c) c [] :=
  ⟨rfl, by simp, rfl, fun _ => rfl, (if_neg h).symm⟩

theorem State.emptyAcc_goTo_change (s : State) {c : CycleState} (h : c ≠ .dig) :
    CycleChange s (s.emptyAcc.goTo c) c [] :=
  .quiet h rfl rfl rfl rfl rfl

theorem State.startReweigh_change (s : State) :
    CycleChange s s.startReweigh .lift (if s.tracker.held.isSome then [.reweigh] else []) := by
  unfold State.startReweigh
  dsimp only
  split
  · exact .handed (.quiet (by decide) rfl rfl rfl rfl rfl)
  · exact .quiet (by decide) rfl rfl rfl rfl rfl

theorem State.overloadCheck_tracker (s : State) (net : Nat) (d : Side) :
    (s.overloadCheck net d).tracker = { s.tracker with overload := (s.overloadCheck net d).tracker.overload } := by
  unfold State.overloadCheck
  dsimp only
  split <;> (try split) <;> simp

theorem State.enterCarry_change (s : State) : CycleChange s s.enterCarry .carry [] := by
  unfold State.enterCarry
  dsimp only
  split
  · exact .quiet (by decide) rfl rfl rfl rfl rfl
  · refine .quiet (by decide) ?_ (by simp) ?_ (by simp) ?_
    all_goals rw [State.overloadCheck_tracker, State.overloadCheck_tracker]; rfl

theorem Accumulator.weighable_iff (a : Accumulator) (f : Profile) : a.weighable f = true ↔ Machine.weighable a f := by
  simp [Accumulator.weighable, Machine.weighable]

/-- The end of a zeroing lift or of a weighing (R30, R42). -/
theorem State.endWindow_change (s : State) : ∃ outcomes, CycleChange s s.endWindow
    (if s.tracker.zeroPending = true ∧ s.tracker.held = none ∧ weighable s.weigh.acc s.cal.profile then .ret
      else .carry) outcomes := by
  unfold State.endWindow State.endZeroing
  by_cases hz : s.tracker.zeroPending = true ∧ s.tracker.held = none
  · rw [if_pos (by simpa using hz)]
    by_cases hw : s.weigh.acc.weighable s.cal.profile = true
    · rw [if_pos hw, if_pos ⟨hz.1, hz.2, (Accumulator.weighable_iff _ _).1 hw⟩]
      exact ⟨_, .handed (.quiet (by decide) rfl rfl rfl rfl rfl)⟩
    · rw [if_neg hw, if_neg fun h => hw ((Accumulator.weighable_iff _ _).2 h.2.2)]
      exact ⟨_, .quiet (by decide) rfl rfl rfl rfl rfl⟩
  · rw [if_neg (by simpa using hz), if_neg fun h => hz ⟨h.1, h.2.1⟩]
    exact ⟨_, s.enterCarry_change⟩

/-- The end of a check (R39). -/
theorem State.endCheck_change (s : State) : ∃ outcomes, CycleChange s s.endCheck .ret outcomes ∧
    ∀ ref, s.tracker.dumpRef = some ref → outcomes =
      if weighable s.weigh.acc s.cal.profile ∧ s.cal.profile.residueThreshold ≤ netMass s s.weigh.acc then
        [.residue (netMass s s.weigh.acc) ref] else [] := by
  unfold State.endCheck
  dsimp only
  split
  · rename_i ref hr
    refine ⟨if weighable s.weigh.acc s.cal.profile ∧ s.cal.profile.residueThreshold ≤ netMass s s.weigh.acc then
      [.residue (netMass s s.weigh.acc) ref] else [], ?_, fun ref' hr' => by rw [hr] at hr'; cases hr'; rfl⟩
    by_cases hw : weighable s.weigh.acc s.cal.profile ∧ s.cal.profile.residueThreshold ≤ netMass s s.weigh.acc
    · rw [if_pos hw, if_pos ⟨(Accumulator.weighable_iff _ _).2 hw.1, hw.2⟩]
      exact .handed (.quiet (by decide) rfl rfl rfl rfl rfl)
    · rw [if_neg hw, if_neg fun h => hw ⟨(Accumulator.weighable_iff _ _).1 h.1, h.2⟩]
      exact .quiet (by decide) rfl rfl rfl rfl rfl
  · rename_i hr
    exact ⟨[], .quiet (by decide) rfl rfl rfl rfl rfl, fun ref hr' => by rw [hr] at hr'; cases hr'⟩

theorem State.endCheck_residuePending (s : State) : s.endCheck.tracker.residuePending = false := by
  unfold State.endCheck
  dsimp only
  split
  · split <;> rfl
  · rfl

/-- The boom transitions of IDLE, DIG and LIFT (R24, R27). -/
theorem State.boomTransition_idle (s : State) (h : s.tracker.cycle = .idle) (boom : Int) :
    CycleChange s (s.boomTransition boom) (if boom < s.cal.profile.digAngle then .dig else .idle) [] := by
  unfold State.boomTransition
  rw [h]
  dsimp only
  split
  · exact State.enterDig_change (.inl h)
  · exact .stay h

theorem State.boomTransition_dig (s : State) (h : s.tracker.cycle = .dig) (boom : Int) :
    CycleChange s (s.boomTransition boom) (if s.cal.profile.digAngle ≤ boom then .lift else .dig) [] := by
  unfold State.boomTransition
  rw [h]
  dsimp only
  split
  · exact State.goTo_change (by simp)
  · exact .stay h

theorem State.boomTransition_lift (s : State) (h : s.tracker.cycle = .lift) (boom : Int) :
    CycleChange s (s.boomTransition boom)
      (if s.cal.profile.loAngle ≤ boom then .weigh else if boom < s.cal.profile.digAngle then .dig else .lift) [] := by
  unfold State.boomTransition
  rw [h]
  dsimp only
  split
  · exact s.emptyAcc_goTo_change (by decide)
  · split
    · exact .discard (State.goTo_change (by simp [State.discardCapture_eq, h]))
    · exact .stay h

/-- The boom transitions of WEIGH: below the window, in it, above it with capture armed, and above it (R27, R42, R44). -/
theorem State.boomTransition_weigh_below (s : State) (h : s.tracker.cycle = .weigh) {boom : Int}
    (hb : boom < s.cal.profile.loAngle) : CycleChange s (s.boomTransition boom) .lift [] := by
  unfold State.boomTransition
  rw [h]
  dsimp only
  rw [if_pos hb]
  exact s.emptyAcc_goTo_change (by decide)

theorem State.boomTransition_weigh_stays (s : State) (h : s.tracker.cycle = .weigh) {boom : Int}
    (hb : s.cal.profile.loAngle ≤ boom) (hs : boom < s.cal.profile.hiAngle ∨ s.tracker.capture.isSome = true) :
    CycleChange s (s.boomTransition boom) .weigh [] := by
  unfold State.boomTransition
  rw [h]
  dsimp only
  rw [if_neg (Int.not_lt.2 hb)]
  split
  · exact .stay h
  · rename_i hh
    rw [if_pos (hs.resolve_left hh)]
    exact .stay h

theorem State.boomTransition_weigh_above (s : State) (h : s.tracker.cycle = .weigh) {boom : Int}
    (hb : s.cal.profile.loAngle ≤ boom) (hh : s.cal.profile.hiAngle ≤ boom) (hc : s.tracker.capture.isSome = false) :
    s.boomTransition boom = s.endWindow := by
  unfold State.boomTransition
  rw [h]
  dsimp only
  rw [if_neg (Int.not_lt.2 hb), if_neg (Int.not_lt.2 hh), if_neg (Bool.eq_false_iff.1 hc)]

/-- The boom transitions of CARRY (R31). -/
theorem State.boomTransition_carry_below (s : State) (h : s.tracker.cycle = .carry) {boom : Int}
    (hb : boom < s.cal.profile.loAngle) : s.boomTransition boom = s.startReweigh := by
  unfold State.boomTransition
  rw [h]
  exact if_pos hb

theorem State.boomTransition_carry_stays (s : State) (h : s.tracker.cycle = .carry) {boom : Int}
    (hb : s.cal.profile.loAngle ≤ boom) : CycleChange s (s.boomTransition boom) .carry [] := by
  unfold State.boomTransition
  rw [h]
  dsimp only
  rw [if_neg (Int.not_lt.2 hb)]
  exact .stay h

/-- The boom transitions of RETURN (R37, R38). -/
theorem State.boomTransition_ret_below (s : State) (h : s.tracker.cycle = .ret) {boom : Int}
    (hb : boom < s.cal.profile.digAngle) : s.boomTransition boom = s.enterDig := by
  unfold State.boomTransition
  rw [h]
  exact if_pos hb

theorem State.boomTransition_ret (s : State) (h : s.tracker.cycle = .ret) {boom : Int}
    (hb : s.cal.profile.digAngle ≤ boom) : CycleChange s (s.boomTransition boom)
      (if s.tracker.residuePending = true ∧ (∃ b ∈ s.tracker.prevBoom, b < s.cal.profile.loAngle) ∧
        s.cal.profile.loAngle ≤ boom then .check else .ret) [] := by
  unfold State.boomTransition
  rw [h]
  dsimp only
  rw [if_neg (Int.not_lt.2 hb)]
  cases hp : s.tracker.prevBoom with
  | none =>
    rw [if_neg (by simp)]
    exact .stay h
  | some p =>
    by_cases hc : s.tracker.residuePending = true ∧ p < s.cal.profile.loAngle ∧ s.cal.profile.loAngle ≤ boom
    · rw [if_pos (by simpa using hc)]
      dsimp only
      rw [if_pos hc]
      exact s.emptyAcc_goTo_change (by decide)
    · rw [if_neg (by simpa using hc)]
      dsimp only
      rw [if_neg hc]
      exact .stay h

/-- The boom transitions of CHECK (R38, R39). -/
theorem State.boomTransition_check_above (s : State) (h : s.tracker.cycle = .check) {boom : Int}
    (hb : s.cal.profile.hiAngle ≤ boom) : s.boomTransition boom = s.endCheck := by
  unfold State.boomTransition
  rw [h]
  exact if_pos hb

theorem State.boomTransition_check (s : State) (h : s.tracker.cycle = .check) {boom : Int}
    (hb : boom < s.cal.profile.hiAngle) : CycleChange s (s.boomTransition boom)
      (if s.cal.profile.loAngle ≤ boom then .check else .ret) [] ∧
      (s.boomTransition boom).tracker.residuePending = s.tracker.residuePending := by
  unfold State.boomTransition
  rw [h]
  dsimp only
  rw [if_neg (Int.not_le.2 hb)]
  by_cases hl : s.cal.profile.loAngle ≤ boom
  · rw [if_pos hl, if_neg (Int.not_lt.2 hl)]
    exact ⟨.stay h, rfl⟩
  · rw [if_neg hl, if_pos (Int.not_le.1 hl)]
    exact ⟨s.emptyAcc_goTo_change (by decide), rfl⟩

/-! ### The four steps of a record's change (R22) -/

theorem CycleState.dumps_iff (c : CycleState) : c.dumps = true ↔ cycling c ∨ c = .check := by
  cases c <;> simp [CycleState.dumps, cycling]

/-- The role gate. -/
theorem State.changeCycle_of_not_usable {s : State} {r : SweepRecord} (h : ¬usable r) :
    s.changeCycle r = if s.tracker.cycle = .idle then s else s.forcedIdle := by
  rw [← usable_iff] at h
  exact if_pos (by rw [Bool.not_eq_true']; exact Bool.eq_false_iff.2 h)

theorem State.changeCycle_gated (s : State) {r : SweepRecord} (h : ¬usable r) :
    CycleChange s (s.changeCycle r) .idle (if cycling s.tracker.cycle then [.lostCycle] else []) := by
  rw [State.changeCycle_of_not_usable h]
  by_cases hi : s.tracker.cycle = .idle
  · rw [if_pos hi, if_neg (by simp [hi, cycling])]
    exact .stay hi
  · rw [if_neg hi]
    exact s.forcedIdle_change

theorem not_gated {r : SweepRecord} (h : usable r) : ¬(!(r.boom.usable && r.bucket.usable)) = true := by
  simp [(usable_iff r).2 h]

theorem dumpSeen_iff (s : State) (r : SweepRecord) :
    (s.tracker.cycle.dumps && decide (r.bucket.number ≤ s.cal.profile.dumpAngle)) = true ↔ dumpSeen s r := by
  simp only [Bool.and_eq_true, decide_eq_true_eq, CycleState.dumps_iff]
  exact and_comm

theorem captureEnds_iff (s : State) (r : SweepRecord) :
    (s.tracker.capture.isSome && (s.tracker.cycle == .lift || s.tracker.cycle == .weigh) &&
      decide (s.cal.profile.truckAngle ≤ r.boom.number)) = true ↔
      s.tracker.capture.isSome = true ∧ captureEnds s r := by
  simp [captureEnds, and_assoc]

/-- The dump test. -/
theorem State.changeCycle_of_dump {s : State} {r : SweepRecord} (h : usable r) (hd : dumpSeen s r) :
    s.changeCycle r = if s.tracker.cycle = .check then s.abandonCheck else s.dump r :=
  (if_neg (not_gated h)).trans (if_pos ((dumpSeen_iff s r).2 hd))

/-- The end of a capture lift. -/
theorem State.changeCycle_of_captureEnds {s : State} {r : SweepRecord} (h : usable r) (hd : ¬dumpSeen s r)
    (ha : s.tracker.capture.isSome = true) (hc : captureEnds s r) : s.changeCycle r = s.endCaptureLift :=
  (if_neg (not_gated h)).trans ((if_neg (mt (dumpSeen_iff s r).1 hd)).trans (if_pos ((captureEnds_iff s r).2 ⟨ha, hc⟩)))

/-- The boom transitions. -/
theorem State.changeCycle_of_moves {s : State} {r : SweepRecord} (h : usable r) (hd : ¬dumpSeen s r)
    (hc : ¬(s.tracker.capture.isSome = true ∧ captureEnds s r)) :
    s.changeCycle r = s.boomTransition r.boom.number :=
  (if_neg (not_gated h)).trans ((if_neg (mt (dumpSeen_iff s r).1 hd)).trans (if_neg (mt (captureEnds_iff s r).1 hc)))

theorem State.endCaptureLift_armed {s : State} {k : CaptureKind} (h : s.tracker.capture = some k) :
    s.endCaptureLift = { s with
      tracker := { s.tracker with cycle := .ret, capture := none, returnOf := none }
      arb := { s.arb with items := s.arb.items ++ [.capture k (some s.weigh.bins)] } } := by
  unfold State.endCaptureLift
  rw [h]
  rfl

/-- Some boom transition applies in every cycle state. -/
theorem State.boomTransition_change (s : State) (boom : Int) :
    ∃ c outcomes, CycleChange s (s.boomTransition boom) c outcomes := by
  cases h : s.tracker.cycle with
  | idle => exact ⟨_, _, s.boomTransition_idle h boom⟩
  | dig => exact ⟨_, _, s.boomTransition_dig h boom⟩
  | lift => exact ⟨_, _, s.boomTransition_lift h boom⟩
  | weigh =>
    by_cases hl : boom < s.cal.profile.loAngle
    · exact ⟨_, _, s.boomTransition_weigh_below h hl⟩
    have above := Int.not_lt.1 hl
    by_cases hs : boom < s.cal.profile.hiAngle ∨ s.tracker.capture.isSome = true
    · exact ⟨_, _, s.boomTransition_weigh_stays h above hs⟩
    · obtain ⟨hh, hc⟩ := not_or.1 hs
      rw [s.boomTransition_weigh_above h above (Int.not_lt.1 hh) (Bool.eq_false_iff.2 hc)]
      exact ⟨_, s.endWindow_change⟩
  | carry =>
    by_cases hb : boom < s.cal.profile.loAngle
    · rw [s.boomTransition_carry_below h hb]
      exact ⟨_, _, s.startReweigh_change⟩
    · exact ⟨_, _, s.boomTransition_carry_stays h (Int.not_lt.1 hb)⟩
  | ret =>
    by_cases hb : boom < s.cal.profile.digAngle
    · rw [s.boomTransition_ret_below h hb]
      exact ⟨_, _, State.enterDig_change (.inr h)⟩
    · exact ⟨_, _, s.boomTransition_ret h (Int.not_lt.1 hb)⟩
  | check =>
    by_cases hb : boom < s.cal.profile.hiAngle
    · exact ⟨_, _, (s.boomTransition_check h hb).1⟩
    · rw [s.boomTransition_check_above h (Int.not_lt.1 hb)]
      obtain ⟨outcomes, change, _⟩ := s.endCheck_change
      exact ⟨_, outcomes, change⟩

/-- Every record but one that ends a capture lift makes a change that leaves the capture mode (R22, R44). -/
theorem State.changeCycle_change {s : State} {r : SweepRecord}
    (h : ¬(usable r ∧ ¬dumpSeen s r ∧ s.tracker.capture.isSome = true ∧ captureEnds s r)) :
    ∃ c outcomes, CycleChange s (s.changeCycle r) c outcomes := by
  by_cases hu : usable r
  · by_cases hd : dumpSeen s r
    · rw [State.changeCycle_of_dump hu hd]
      split
      · exact ⟨_, _, s.abandonCheck_change⟩
      · obtain ⟨i, change⟩ := s.dump_change r
        exact ⟨_, _, change⟩
    · rw [State.changeCycle_of_moves hu hd fun hc => h ⟨hu, hd, hc⟩]
      exact s.boomTransition_change _
  · exact ⟨_, _, s.changeCycle_gated hu⟩

end Sys2Proof.Machine
end

section
/-! What taking a record makes of its change of the cycle state (R22, R23, R25, R44, R45): the abort of an armed capture,
the previous boom, and the outcomes handed. -/

namespace Sys2Proof.Machine

/-! ### The steps of a record (R22) -/

/-- The directing of a record leaves all but the weighing unit. -/
theorem State.takeSteps_tracker (s : State) (r : SweepRecord) : (s.takeSteps r).tracker =
    { (s.changeCycle r).tracker with
      prevBoom := if inUse r.boom ∧ (usable r ∨ s.tracker.cycle = .idle) then r.boom.value
        else (s.changeCycle r).tracker.prevBoom } := by
  rw [State.takeSteps, State.direct_eq, State.recordBoom_eq]

theorem State.takeSteps_items (s : State) (r : SweepRecord) :
    (s.takeSteps r).arb.items = (s.changeCycle r).arb.items := by
  rw [State.takeSteps, State.direct_eq, State.recordBoom_eq]

/-- A record that finds capture disarmed is no capture sweep (R44). -/
theorem State.direct_unarmed_bins (s : State) (rate : Option Int) (r : SweepRecord) :
    (s.direct false rate r).weigh.bins = s.weigh.bins := by
  unfold State.direct
  split
  case h_1 => rfl
  case h_2 => rw [if_neg Bool.false_ne_true]; rfl
  case h_3 => rw [if_neg Bool.false_ne_true]
  all_goals rfl

theorem State.takeSteps_unarmed_bins {s : State} (h : s.tracker.capture = none) (r : SweepRecord) :
    (s.takeSteps r).weigh.bins = (s.changeCycle r).weigh.bins := by
  rw [State.takeSteps, h, Option.isSome_none, State.direct_unarmed_bins, State.recordBoom_eq]

theorem State.abortCapture_unarmed {s : State} (h : s.tracker.capture = none) : s.abortCapture = s := by
  unfold State.abortCapture
  rw [h]

theorem State.abortCapture_tracker (s : State) :
    s.abortCapture.tracker = { s.tracker with capture := none } := by
  cases h : s.tracker.capture with
  | none => rw [State.abortCapture_unarmed h, ← h]
  | some k => rw [State.abortCapture_armed h]

/-! ### A record taken -/

/-- `s` with the parts of `x` that the end of a sweep may have changed before the steps of its record are taken: the
capture mode and its bins, and what the change of the cycle state does not look at. -/
def State.withParts (s x : State) : State :=
  { s with
    link := x.link, ports := x.ports, arb := x.arb, openChoice := x.openChoice
    tracker := { s.tracker with capture := x.tracker.capture }
    weigh := { s.weigh with bins := x.weigh.bins } }

/-- The outcomes of a record that hands `outcomes`, with the one of an aborted capture before or after them (R45). -/
abbrev withAbort (s : State) (r : SweepRecord) (all outcomes : List Item) : Prop :=
  (¬aborts s r → all = outcomes) ∧
    (aborts s r → ∃ k ∈ s.tracker.capture, all = .capture k none :: outcomes ∨ all = outcomes ++ [.capture k none])

/-- A record `r` taken from `s` to `t`, with the outcomes `all`: the cycle state changes in `v`, which stands before or
behind the abort of an armed capture. -/
structure RecordTaken (s t : State) (r : SweepRecord) (all : List Item) (v : State) : Prop where
  parts : v = s.withParts v
  unaborted : ¬aborts s r → v.tracker.capture = s.tracker.capture
  armed : v.tracker.capture.isSome = true → v.tracker.capture = s.tracker.capture ∧ v.weigh.bins = s.weigh.bins
  tracker : ∃ mode, t.tracker = { (v.changeCycle r).tracker with
    prevBoom := if inUse r.boom ∧ (usable r ∨ v.tracker.cycle = .idle) then r.boom.value
      else (v.changeCycle r).tracker.prevBoom
    capture := mode, prevRecord := some r }
  changed : ∀ {c outcomes}, CycleChange v (v.changeCycle r) c outcomes → withAbort s r all outcomes ∧
    t.tracker.capture = (if aborts s r then none else s.tracker.capture) ∧ (aborts s r → t.weigh.bins = noForces)
  ended : ∀ {outcomes}, v.tracker.capture.isSome = true → (v.changeCycle r).tracker.capture = none →
    (v.changeCycle r).arb.items = v.arb.items ++ outcomes → t.tracker.capture = none ∧ all = outcomes

/-- A record that aborts nothing. -/
theorem RecordTaken.of_unaborted {s : State} {r : SweepRecord} (hi : s.arb.items = []) (ha : ¬aborts s r) :
    RecordTaken s ((s.takeSteps r).remember r) r (s.takeSteps r).arb.items s where
  parts := rfl
  unaborted _ := rfl
  armed _ := ⟨rfl, rfl⟩
  tracker := ⟨_, by rw [State.remember_tracker, State.takeSteps_tracker]⟩
  changed {c outcomes} change := by
    refine ⟨⟨fun _ => ?_, fun h => absurd h ha⟩, ?_, fun h => absurd h ha⟩
    · rw [State.takeSteps_items, change.items, hi, List.nil_append]
    · rw [if_neg ha, ← change.capture, State.remember_tracker, State.takeSteps_tracker]
  ended {outcomes} _ hc ho := by
    refine ⟨?_, by rw [State.takeSteps_items, ho, hi, List.nil_append]⟩
    rw [← hc, State.remember_tracker, State.takeSteps_tracker]

/-- A record whose abort comes before its steps. -/
theorem RecordTaken.of_aborted_before {s : State} {r : SweepRecord} (hi : s.arb.items = []) (ha : aborts s r) :
    RecordTaken s ((s.abortCapture.takeSteps r).remember r) r (s.abortCapture.takeSteps r).arb.items
      s.abortCapture := by
  obtain ⟨k, hk⟩ := Option.isSome_iff_exists.1 ha.1
  have aborted := State.abortCapture_armed hk
  generalize s.abortCapture = v at aborted ⊢
  have disarmed : v.tracker.capture = none := by rw [aborted]
  have waits : v.arb.items = [.capture k none] := by rw [aborted, hi]; rfl
  have emptied : v.weigh.bins = noForces := by rw [aborted]
  refine ⟨by rw [aborted]; rfl, fun h => absurd ha h, by simp [disarmed],
    ⟨_, by rw [State.remember_tracker, State.takeSteps_tracker]⟩, fun change => ?_, by simp [disarmed]⟩
  · refine ⟨⟨fun h => absurd ha h, fun _ => ⟨k, hk, .inl ?_⟩⟩, ?_, fun _ => ?_⟩
    · rw [State.takeSteps_items, change.items, waits]
      rfl
    · rw [if_pos ha, ← disarmed, ← change.capture, State.remember_tracker, State.takeSteps_tracker]
    · rw [← emptied, ← change.bins disarmed]
      exact State.takeSteps_unarmed_bins disarmed r

/-- A record whose abort comes after its steps. -/
theorem RecordTaken.of_aborted_after {s : State} {r : SweepRecord} (hi : s.arb.items = []) (ha : aborts s r) :
    RecordTaken s ((s.takeSteps r).abortCapture.remember r) r (s.takeSteps r).abortCapture.arb.items s where
  parts := rfl
  unaborted _ := rfl
  armed _ := ⟨rfl, rfl⟩
  tracker := ⟨_, by rw [State.remember_tracker, State.abortCapture_tracker, State.takeSteps_tracker]⟩
  changed {c outcomes} change := by
    obtain ⟨k, hk⟩ := Option.isSome_iff_exists.1 ha.1
    have still : (s.takeSteps r).tracker.capture = some k := by rw [State.takeSteps_tracker, ← hk, ← change.capture]
    rw [State.abortCapture_armed still]
    refine ⟨⟨fun h => absurd ha h, fun _ => ⟨k, hk, .inr ?_⟩⟩, ?_, fun _ => rfl⟩
    · change (s.takeSteps r).arb.items ++ _ = _
      rw [State.takeSteps_items, change.items, hi, List.nil_append]
    · rw [if_pos ha]
      rfl
  ended {outcomes} _ hc ho := by
    have disarmed : (s.takeSteps r).tracker.capture = none := by rw [State.takeSteps_tracker, ← hc]
    rw [State.abortCapture_unarmed disarmed]
    exact ⟨disarmed, by rw [State.takeSteps_items, ho, hi, List.nil_append]⟩

/-- The statement of a record taken speaks of the tracker, the weighing unit, the calibration and what no record
touches. -/
theorem RecordTaken.of_same {s p t w v : State} {r : SweepRecord} {all : List Item}
    (h : RecordTaken p w r all v) (hp : p = { s with
      link := p.link, ports := p.ports, arb := p.arb, openChoice := p.openChoice })
    (ht : t.tracker = w.tracker) (hw : t.weigh = w.weigh) : RecordTaken s t r all v := by
  rw [hp] at h
  refine ⟨h.parts, h.unaborted, h.armed, ?_, ?_, ?_⟩
  · rw [ht]; exact h.tracker
  · rw [ht, hw]; exact h.changed
  · rw [ht]; exact h.ended

/-- Every record is taken so. -/
theorem State.takeRecord_taken {s : State} (hi : s.arb.items = []) (r : SweepRecord) :
    ∃ v, RecordTaken s (s.takeRecord r) r (s.takeRecord r).arb.items v := by
  have asked : { s with openChoice := s.openChoice + 1 } = { s with
    link := s.link, ports := s.ports, arb := s.arb, openChoice := s.openChoice + 1 } := rfl
  rcases s.takeRecord_cases r with ⟨ha, h⟩ | ⟨ha, h⟩ | ⟨ha, h⟩ <;> rw [h]
  · exact ⟨_, .of_unaborted hi ha⟩
  · exact ⟨_, (RecordTaken.of_aborted_before (s := { s with openChoice := s.openChoice + 1 }) hi ha).of_same
      asked rfl rfl⟩
  · exact ⟨_, (RecordTaken.of_aborted_after (s := { s with openChoice := s.openChoice + 1 }) hi ha).of_same
      asked rfl rfl⟩

/-- The end of a sweep takes its record, and puts the outcomes among the sweep's tag events (R11 to R13). -/
theorem SweepEnds.taken {c : Instr} {s : State} {sw : Sweep} (h : SweepEnds c s sw) :
    ∃ t all v, Machine.exec c s = .next t ∧ RecordTaken s t (sweepRecord s.link sw) all v ∧ handsItems s t sw all := by
  obtain ⟨u, hexec, same, roles, _⟩ := h.exec
  obtain ⟨k, n, hend⟩ := u.endSweep_eq sw
  rw [sweepRecord_congr roles] at hend
  obtain ⟨v, taken⟩ := u.sweepOver.takeRecord_taken rfl (sweepRecord s.link sw)
  have same' : u.sweepOver = { s with
      link := u.sweepOver.link, ports := u.sweepOver.ports, arb := u.sweepOver.arb,
      openChoice := u.sweepOver.openChoice } := by
    rw [same]
    rfl
  refine ⟨_, _, v, hexec, taken.of_same same' (by rw [hend]) (by rw [hend]), k, ?_⟩
  rw [hend, same]

/-! ### What a change of the cycle state comes to -/

/-- The outcomes of a change reach the arbiter. -/
theorem withAbort.hands {s t : State} {sw : Sweep} {all outcomes : List Item}
    (h : withAbort s (sweepRecord s.link sw) all outcomes) (ht : handsItems s t sw all) : hands s t sw outcomes := by
  obtain ⟨quiet, aborted⟩ := h
  refine ⟨fun ha => quiet ha ▸ ht, fun ha => ?_⟩
  obtain ⟨k, hk, rfl | rfl⟩ := aborted ha
  · exact ⟨k, hk, .inl ht⟩
  · exact ⟨k, hk, .inr ht⟩

theorem RecordTaken.moved {s t v : State} {sw : Sweep} {all : List Item} {c : CycleState} {outcomes : List Item}
    (h : RecordTaken s t (sweepRecord s.link sw) all v) (ht : handsItems s t sw all)
    (change : CycleChange v (v.changeCycle (sweepRecord s.link sw)) c outcomes) :
    t.tracker.cycle = c ∧ hands s t sw outcomes := by
  obtain ⟨_, tracker⟩ := h.tracker
  exact ⟨by rw [tracker]; exact change.cycle, (h.changed change).1.hands ht⟩

section
variable {s t v : State} {r : SweepRecord} {all : List Item}

/-- The tracker's figures are as the change leaves them. -/
theorem RecordTaken.figures (h : RecordTaken s t r all v) :
    t.tracker.prevRecord = some r ∧ t.tracker.cycle = (v.changeCycle r).tracker.cycle ∧
      t.tracker.timer = (v.changeCycle r).tracker.timer ∧ t.tracker.held = (v.changeCycle r).tracker.held ∧
      t.tracker.overload = (v.changeCycle r).tracker.overload ∧
      t.tracker.residuePending = (v.changeCycle r).tracker.residuePending := by
  obtain ⟨_, tracker⟩ := h.tracker
  rw [tracker]
  exact ⟨rfl, rfl, rfl, rfl, rfl, rfl⟩

/-- The previous boom is forgotten with a forced IDLE (R23). -/
theorem RecordTaken.prevBoom_forced (h : RecordTaken s t r all v) (hu : ¬usable r) (hc : v.tracker.cycle ≠ .idle) :
    t.tracker.prevBoom = none := by
  obtain ⟨_, tracker⟩ := h.tracker
  rw [tracker]
  dsimp only
  rw [if_neg (by rintro ⟨_, hu' | hc'⟩ <;> contradiction), State.changeCycle_of_not_usable hu, if_neg hc,
    State.forcedIdle_prevBoom]

/-- The previous boom otherwise (R25). -/
theorem RecordTaken.prevBoom_recorded (h : RecordTaken s t r all v) (hu : usable r ∨ v.tracker.cycle = .idle) :
    t.tracker.prevBoom = if inUse r.boom then r.boom.value else v.tracker.prevBoom := by
  obtain ⟨_, tracker⟩ := h.tracker
  rw [tracker]
  dsimp only
  by_cases hb : inUse r.boom
  · rw [if_pos hb, if_pos ⟨hb, hu⟩]
  · have unusable : ¬usable r := fun hu => hb hu.1
    rw [if_neg hb, if_neg (fun hx => hb hx.1), State.changeCycle_of_not_usable unusable,
      if_pos (hu.resolve_left unusable)]

/-- The end of a capture lift (R44): whatever it aborts, it hands the bins it found. -/
theorem RecordTaken.lifted (h : RecordTaken s t r all v) (hu : usable r) (hd : ¬dumpSeen v r)
    (ha : v.tracker.capture.isSome = true) (hc : captureEnds v r) :
    t.tracker.cycle = .ret ∧ t.tracker.timer = v.tracker.timer ∧ t.tracker.capture = none ∧
      ∃ k ∈ s.tracker.capture, all = [.capture k (some s.weigh.bins)] := by
  obtain ⟨_, cycle, timer, _⟩ := h.figures
  obtain ⟨k, hk⟩ := Option.isSome_iff_exists.1 ha
  obtain ⟨mode, bins⟩ := h.armed ha
  have change := State.changeCycle_of_captureEnds hu hd ha hc
  rw [State.endCaptureLift_armed hk] at change
  obtain ⟨disarmed, handed⟩ :=
    h.ended (outcomes := [.capture k (some v.weigh.bins)]) ha (by rw [change]) (by rw [change])
  exact ⟨by rw [cycle, change], by rw [timer, change], disarmed, k, mode ▸ hk, bins ▸ handed⟩

end

theorem State.startReweigh_tracker (s : State) :
    s.startReweigh.tracker = { s.tracker with overload := ⟨false, false⟩, cycle := .lift } := by
  unfold State.startReweigh
  dsimp only
  split <;> rfl

/-! ### The statement -/

/-- Settles O16: the change is the one of the first step of R22 that applies, made in a state with the tracker of the
one before it, and so with its figures. -/
theorem recordMovesCycleState : Obligations.RecordMovesCycleState := by
  intro c s sw hs r f cy boom dumps
  obtain ⟨t, all, v, hexec, taken, ht⟩ := hs.taken
  obtain ⟨x, rfl⟩ : ∃ x, v = s.withParts x := ⟨v, taken.parts⟩
  set v := s.withParts x
  obtain ⟨record, cycle, timer, held, overload, residue⟩ := taken.figures
  refine ⟨t, v.tracker.capture.isSome, hexec, fun ha => congrArg Option.isSome (taken.unaborted ha), record, ?_⟩
  intro cy' ends moves
  have lifted : ends → t.tracker.cycle = .ret ∧ t.tracker.timer = v.tracker.timer ∧ t.tracker.capture = none ∧
      ∃ k ∈ s.tracker.capture, all = [.capture k (some s.weigh.bins)] :=
    fun ⟨hu, hd, ha, hc⟩ => taken.lifted hu hd ha hc
  have changes : ¬ends → ∃ c outcomes, CycleChange v (v.changeCycle r) c outcomes := fun he =>
    State.changeCycle_change he
  refine ⟨fun hu => taken.moved ht (v.changeCycle_gated hu), ?dump, ?ends, ?moves, ?check, ?mode, ?bins,
    taken.prevBoom_forced, taken.prevBoom_recorded, ?timer⟩
  case dump =>
    intro hu hd
    have change := State.changeCycle_of_dump (s := v) hu hd
    split at change
    · exact (taken.moved ht (change ▸ v.abandonCheck_change)).1
    · obtain ⟨i, dumped⟩ := v.dump_change r
      exact (taken.moved ht (change ▸ dumped)).1
  case ends =>
    intro he
    obtain ⟨hret, _, hmode, k, hk, rfl⟩ := lifted he
    exact ⟨hret, hmode, k, hk, ht⟩
  case moves =>
    rintro ⟨hu, hd, he⟩
    have change : v.changeCycle r = v.boomTransition boom :=
      State.changeCycle_of_moves hu hd fun ⟨ha, hc⟩ => he ⟨hu, hd, ha, hc⟩
    have moved : ∀ {c outcomes}, CycleChange v (v.boomTransition boom) c outcomes →
        cy' = c ∧ hands s t sw outcomes := fun h => taken.moved ht (change ▸ h)
    refine ⟨fun h => moved (v.boomTransition_idle h boom), fun h => moved (v.boomTransition_dig h boom),
      fun h => moved (v.boomTransition_lift h boom), fun h hl => moved (v.boomTransition_weigh_below h hl),
      fun h hl hh => moved (v.boomTransition_weigh_stays h hl (.inl hh)),
      fun h hl _ ha => moved (v.boomTransition_weigh_stays h hl (.inr ha)), fun h hl hh ha => ?window,
      fun h hl => moved (v.boomTransition_carry_stays h hl), fun h hl => ?reweigh, fun h hb => ?dig,
      fun h hb => (moved (v.boomTransition_ret h hb)).symm, fun h hh => ?checking, fun h hh => ?checked⟩
    case window =>
      obtain ⟨_, ended⟩ := v.endWindow_change
      exact (moved (v.boomTransition_weigh_above h hl hh ha ▸ ended)).1
    case reweigh =>
      have below := v.boomTransition_carry_below h hl
      obtain ⟨hlift, hhands⟩ := moved (below ▸ v.startReweigh_change)
      refine ⟨hlift, ?_, ?_, hhands⟩
      · rw [overload, change, below, State.startReweigh_tracker]
      · rw [held, change, below, State.startReweigh_tracker]
        rfl
    case dig =>
      have below := v.boomTransition_ret_below h hb
      obtain ⟨hdig, hhands⟩ := moved (below ▸ State.enterDig_change (s := v) (.inr h))
      exact ⟨hdig, by rw [held, change, below]; rfl, by rw [residue, change, below]; rfl, hhands⟩
    case checking =>
      obtain ⟨checking, kept⟩ := v.boomTransition_check h hh
      obtain ⟨hcycle, hhands⟩ := moved checking
      exact ⟨hcycle, by rw [residue, change]; exact kept, hhands⟩
    case checked =>
      have above := v.boomTransition_check_above h hh
      obtain ⟨outcomes, ended, residues⟩ := v.endCheck_change
      obtain ⟨hret, hhands⟩ := moved (above ▸ ended)
      refine ⟨hret, ?_, fun ref href => ?_⟩
      · rw [residue, change, above, State.endCheck_residuePending]
      · exact residues ref href ▸ hhands
  case check =>
    intro hu hd hc
    have change := (State.changeCycle_of_dump (s := v) hu hd).trans (if_pos hc)
    exact ⟨by rw [residue, change]; rfl, (taken.moved ht (change ▸ v.abandonCheck_change)).2⟩
  case mode =>
    intro he
    obtain ⟨_, _, change⟩ := changes he
    exact (taken.changed change).2.1
  case bins =>
    intro he
    obtain ⟨_, _, change⟩ := changes he
    exact (taken.changed change).2.2
  case timer =>
    by_cases he : ends
    · obtain ⟨hret, htimer, _⟩ := lifted he
      rw [htimer, if_neg (by simp [cy', hret])]
      rfl
    · obtain ⟨c, _, change⟩ := changes he
      rw [timer, change.timer, ← change.cycle, ← cycle]
      rfl

end Sys2Proof.Machine
end

section
/-! The weighing of a record (R28, R29, R53, R54, R61, R81): what its change of the cycle state, and then its directing,
make of the window accumulator and of the capture bins. -/

namespace Sys2Proof.Machine

/-! ### What the change makes of the weighing unit (R23, R33, R38, R45, R53) -/

theorem State.forcedIdle_weigh (s : State) : s.forcedIdle.weigh =
    { s.weigh with acc := noSamples, bins := if s.tracker.capture.isSome then noForces else s.weigh.bins } := by
  unfold State.forcedIdle
  rw [State.discardCapture_eq]
  dsimp only
  split <;> rfl

theorem State.dump_weigh (s : State) (r : SweepRecord) : (s.dump r).weigh =
    { s.weigh with acc := noSamples, bins := if s.tracker.capture.isSome then noForces else s.weigh.bins } := by
  unfold State.dump
  rw [State.discardCapture_eq]
  dsimp only
  split
  · split <;> rfl
  · rfl

theorem State.abandonCheck_weigh (s : State) : s.abandonCheck.weigh = { s.weigh with acc := noSamples } := rfl

theorem State.endWindow_weigh (s : State) : s.endWindow.weigh = s.weigh := by
  unfold State.endWindow State.endZeroing State.enterCarry
  dsimp only
  split <;> split <;> simp

theorem State.endCheck_weigh (s : State) : s.endCheck.weigh = s.weigh := by
  unfold State.endCheck
  dsimp only
  split <;> (try split) <;> rfl

theorem State.startReweigh_weigh (s : State) : s.startReweigh.weigh = s.weigh := by
  unfold State.startReweigh
  dsimp only
  split <;> rfl

theorem State.endCaptureLift_weigh (s : State) : s.endCaptureLift.weigh = s.weigh := by
  unfold State.endCaptureLift
  split <;> rfl

/-- A boom transition clears the accumulator: it enters a window or a check, or leaves one below (R53). -/
abbrev windowCleared (cy cy' : CycleState) (boom hiAngle : Int) : Prop :=
  (cy = .lift ∧ cy' = .weigh) ∨ (cy = .ret ∧ cy' = .check) ∨ (cy = .weigh ∧ cy' = .lift) ∨
    (cy = .check ∧ cy' = .ret ∧ boom < hiAngle)

/-- What a boom transition makes of the weighing unit. -/
theorem State.boomTransition_weigh (s : State) (boom : Int) :
    let cy := s.tracker.cycle
    let cy' := (s.boomTransition boom).tracker.cycle
    (s.boomTransition boom).weigh = { s.weigh with
      acc := if windowCleared cy cy' boom s.cal.profile.hiAngle then noSamples else s.weigh.acc
      bins := if s.tracker.capture.isSome = true ∧ cy = .lift ∧ cy' = .dig then noForces else s.weigh.bins } := by
  dsimp only
  generalize hu : s.boomTransition boom = u
  have unfolded := hu
  unfold State.boomTransition at unfolded
  cases hc : s.tracker.cycle <;> rw [hc] at unfolded <;> dsimp only at unfolded
  case idle => split at unfolded <;> subst unfolded <;> simp [windowCleared, State.enterDig]
  case dig => split at unfolded <;> subst unfolded <;> simp [windowCleared]
  case lift =>
    split at unfolded
    · subst unfolded
      simp [windowCleared, Accumulator.empty]
    split at unfolded
    · subst unfolded
      simp [windowCleared, State.discardCapture_eq]
    · subst unfolded
      simp [windowCleared, hc]
  case weigh =>
    split at unfolded
    · subst unfolded
      simp [windowCleared, Accumulator.empty]
    split at unfolded
    · subst unfolded
      simp [windowCleared, hc]
    split at unfolded
    · subst unfolded
      simp [windowCleared, hc]
    · subst unfolded
      obtain ⟨_, change⟩ := s.endWindow_change
      rw [change.cycle, State.endWindow_weigh]
      split <;> simp [windowCleared]
  case carry =>
    split at unfolded
    · subst unfolded
      simp [windowCleared, State.startReweigh_weigh]
    · subst unfolded
      simp [windowCleared]
  case ret =>
    split at unfolded
    · subst unfolded
      simp [windowCleared, State.enterDig]
    split at unfolded
    · split at unfolded
      · subst unfolded
        simp [windowCleared, Accumulator.empty]
      · subst unfolded
        simp [windowCleared, hc]
    · subst unfolded
      simp [windowCleared, hc]
  case check =>
    split at unfolded
    · rename_i above
      subst unfolded
      simp [windowCleared, State.endCheck_weigh, Int.not_lt.2 above]
    split at unfolded
    · rename_i above _
      subst unfolded
      simp [windowCleared, Accumulator.empty, Int.not_le.1 above]
    · subst unfolded
      simp [windowCleared, hc]

/-- A record's change clears or discards the window accumulator: by a forced IDLE, a dump or a boom transition (R53). -/
abbrev accEmptied (s : State) (r : SweepRecord) (cy' : CycleState) : Prop :=
  (¬usable r ∧ s.tracker.cycle ≠ .idle) ∨ (usable r ∧ dumpSeen s r) ∨
    windowCleared s.tracker.cycle cy' r.boom.number s.cal.profile.hiAngle

/-- A record's change discards the forces of an armed capture: by a forced IDLE, a dump or a return to DIG (R23, R45).
-/
abbrev binsEmptied (s : State) (r : SweepRecord) (cy' : CycleState) : Prop :=
  s.tracker.capture.isSome = true ∧ ((s.tracker.cycle = .lift ∧ cy' = .dig) ∨ (¬usable r ∧ s.tracker.cycle ≠ .idle) ∨
    (usable r ∧ r.bucket.number ≤ s.cal.profile.dumpAngle ∧ cycling s.tracker.cycle))

/-- What a record's change makes of the weighing unit. -/
theorem State.changeCycle_weigh (s : State) (r : SweepRecord) : (s.changeCycle r).weigh = { s.weigh with
    acc := if accEmptied s r (s.changeCycle r).tracker.cycle then noSamples else s.weigh.acc
    bins := if binsEmptied s r (s.changeCycle r).tracker.cycle then noForces else s.weigh.bins } := by
  by_cases hu : usable r
  case neg =>
    have change := State.changeCycle_of_not_usable (s := s) hu
    have hcycle := (s.changeCycle_gated hu).cycle
    split at change
    · rename_i hi
      have acc : ¬accEmptied s r .idle := by simp [accEmptied, windowCleared, hi, hu]
      have bins : ¬binsEmptied s r .idle := by simp [binsEmptied, hi, hu]
      rw [hcycle, if_neg acc, if_neg bins, change]
    · rename_i hi
      have acc : accEmptied s r .idle := .inl ⟨hu, hi⟩
      have bins : binsEmptied s r .idle ↔ s.tracker.capture.isSome = true := by simp [binsEmptied, hi, hu]
      rw [hcycle, if_pos acc, if_congr bins rfl rfl, change, State.forcedIdle_weigh]
  by_cases hd : dumpSeen s r
  case pos =>
    have change := State.changeCycle_of_dump hu hd
    have acc : ∀ c, accEmptied s r c := fun c => .inr (.inl ⟨hu, hd⟩)
    obtain ⟨low, dumping⟩ := hd
    split at change
    · rename_i hc
      have bins : ∀ c, ¬binsEmptied s r c := by simp [binsEmptied, hc, hu, cycling]
      rw [if_pos (acc _), if_neg (bins _), change, State.abandonCheck_weigh]
    · rename_i hc
      have lifting := dumping.resolve_right hc
      have bins : ∀ c, binsEmptied s r c ↔ s.tracker.capture.isSome = true :=
        fun c => and_iff_left (.inr (.inr ⟨hu, low, lifting⟩))
      rw [if_pos (acc _), if_congr (bins _) rfl rfl, change, State.dump_weigh]
  have low : ¬(r.bucket.number ≤ s.cal.profile.dumpAngle ∧ cycling s.tracker.cycle) :=
    fun ⟨h, hc⟩ => hd ⟨h, .inl hc⟩
  by_cases he : s.tracker.capture.isSome = true ∧ captureEnds s r
  case pos =>
    obtain ⟨ha, hc⟩ := he
    have change := State.changeCycle_of_captureEnds hu hd ha hc
    obtain ⟨k, hk⟩ := Option.isSome_iff_exists.1 ha
    have hcycle : (s.changeCycle r).tracker.cycle = .ret := by rw [change, State.endCaptureLift_armed hk]
    have check : s.tracker.cycle ≠ .check := by rcases hc.1 with h | h <;> simp [h]
    have acc : ¬accEmptied s r .ret := by simp [accEmptied, windowCleared, hu, hd, check]
    have bins : ¬binsEmptied s r .ret := by simp [binsEmptied, hu, low]
    rw [hcycle, if_neg acc, if_neg bins, change, State.endCaptureLift_weigh]
  case neg =>
    have change := State.changeCycle_of_moves hu hd he
    have acc : ∀ c, accEmptied s r c ↔ windowCleared s.tracker.cycle c r.boom.number s.cal.profile.hiAngle := by
      simp [accEmptied, hu, hd]
    have bins : ∀ c, binsEmptied s r c ↔ s.tracker.capture.isSome = true ∧ s.tracker.cycle = .lift ∧ c = .dig := by
      simp [binsEmptied, hu, low]
    rw [if_congr (acc _) rfl rfl, if_congr (bins _) rfl rfl, change]
    exact s.boomTransition_weigh r.boom.number

/-! ### What the directing makes of the weighing unit (R28, R29, R53, R54, R81) -/

theorem rateInBand_iff (s : State) (r : SweepRecord) :
    rateInBand s.cal.profile (liftRate s.tracker.prevBoom r) = true ↔ rateFits s r := by
  unfold liftRate rateFits
  cases s.tracker.prevBoom <;> cases r.boom.value <;> simp [rateInBand]

theorem forceReady_iff (s : State) (r : SweepRecord) :
    (r.forceReady && s.supply.state == .normal) = true ↔ measures s r := by
  simp [SweepRecord.forceReady, measures, and_assoc]

/-- A weighing sweep that passes stage 1 (R54). -/
abbrev weighs (s : State) (r : SweepRecord) : Prop :=
  s.cal.profile.loAngle ≤ r.boom.number ∧ r.boom.number < s.cal.profile.hiAngle ∧ rateFits s r ∧ measures s r

/-- A capture sweep whose force is taken, when it has a bin (R81). -/
abbrev captures (s : State) (r : SweepRecord) : Prop :=
  s.cal.profile.digAngle ≤ r.boom.number ∧ r.boom.number < s.cal.profile.truckAngle ∧ rateFits s r ∧ measures s r

theorem takes_iff (s : State) (r : SweepRecord) :
    takes s.cal.profile s.supply.state (liftRate s.tracker.prevBoom r) r = true ↔ weighs s r := by
  unfold takes
  rw [Bool.and_assoc, Bool.and_assoc, Bool.and_assoc, Bool.and_eq_true, Bool.and_eq_true, Bool.and_eq_true,
    rateInBand_iff, forceReady_iff, decide_eq_true_eq, decide_eq_true_eq]

theorem capturable_iff (s : State) (r : SweepRecord) :
    capturable s.cal.profile s.supply.state (liftRate s.tracker.prevBoom r) r = true ↔ captures s r := by
  unfold capturable
  rw [Bool.and_assoc, Bool.and_assoc, Bool.and_assoc, Bool.and_eq_true, Bool.and_eq_true, Bool.and_eq_true,
    rateInBand_iff, forceReady_iff, decide_eq_true_eq, decide_eq_true_eq]

/-- What an offered sweep makes of the accumulator, in the statements' words (R53, R54, R61). -/
theorem Accumulator.offer_eq (a : Accumulator) (curve : Vector CurveBin 16) (f : Profile) (supply : SupplyState)
    (rate : Option Int) (r : SweepRecord) : a.offer curve f supply rate r =
      weighedSweep a (takes f supply rate r) (sampleMass curve f r) (sampleSat curve f r)
        (decide (r.pitch.state ≠ .ok)) := by
  unfold Accumulator.offer weighedSweep
  by_cases ha : a.abandoned = true
  · rw [if_pos ha, if_pos ha]
  rw [if_neg ha, if_neg ha]
  cases takes f supply rate r
  case false => rfl
  case true =>
    rw [if_pos rfl, if_neg (by simp)]
    unfold Accumulator.accumulate
    by_cases hc : a.count < 255
    · rw [if_pos hc, if_neg (Nat.not_le.2 hc)]
      cases hmin : a.min <;> cases hmax : a.max <;> simp [lower, upper, ha]
    · rw [if_neg hc, if_pos (Nat.not_lt.1 hc)]

/-- A weighing sweep with the supply and the calibration of `s` and its previous boom (R28, R29, R61). -/
abbrev sweptAcc (s : State) (r : SweepRecord) (a : Accumulator) : Accumulator :=
  weighedSweep { a with abandoned := a.abandoned || decide (lost r.head ∨ lost r.rod ∨ lost r.boom) }
    (decide (weighs s r)) (sampleMass s.cal.active s.cal.profile r) (sampleSat s.cal.active s.cal.profile r)
    (decide (r.pitch.state ≠ .ok))

theorem abandonedBy_eq (a : Accumulator) (r : SweepRecord) :
    (if (r.head.faulty || r.rod.faulty || r.boom.faulty) = true then a.abandon else a) =
      { a with abandoned := a.abandoned || decide (lost r.head ∨ lost r.rod ∨ lost r.boom) } := by
  have faulty : (r.head.faulty || r.rod.faulty || r.boom.faulty) = true ↔ lost r.head ∨ lost r.rod ∨ lost r.boom := by
    simp [RoleReading.faulty, lost, or_assoc]
  by_cases h : lost r.head ∨ lost r.rod ∨ lost r.boom
  · rw [if_pos (faulty.2 h), decide_eq_true h, Bool.or_true]
    rfl
  · rw [if_neg (mt faulty.1 h), decide_eq_false h, Bool.or_false]

/-- A record is a weighing sweep: it is in CHECK, or in WEIGH with capture disarmed (R28). -/
abbrev isWeighingSweep (c : CycleState) (armed : Bool) : Prop := c = .check ∨ (c = .weigh ∧ armed = false)

/-- A record is a capture sweep: it is in LIFT or WEIGH with capture armed (R44, R81). -/
abbrev isCaptureSweep (c : CycleState) (armed : Bool) : Prop := (c = .lift ∨ c = .weigh) ∧ armed = true

/-- What the directing of a record makes of the weighing unit, the calibration, the supply and the previous boom being
those of `s`. -/
theorem State.direct_weigh {s u : State} (hcal : u.cal = s.cal) (hsupply : u.supply = s.supply) (armed : Bool)
    (r : SweepRecord) : (u.direct armed (liftRate s.tracker.prevBoom r) r).weigh = { u.weigh with
      acc := if isWeighingSweep u.tracker.cycle armed then sweptAcc s r u.weigh.acc else u.weigh.acc
      bins := if isCaptureSweep u.tracker.cycle armed then
        captureSweep u.weigh.bins s.cal.profile s.supply.state (liftRate s.tracker.prevBoom r) r
        else u.weigh.bins } := by
  have weighed : (u.weighingSweep (liftRate s.tracker.prevBoom r) r).weigh =
      { u.weigh with acc := sweptAcc s r u.weigh.acc } := by
    have taken : takes s.cal.profile s.supply.state (liftRate s.tracker.prevBoom r) r = decide (weighs s r) :=
      Bool.eq_iff_iff.2 ((takes_iff s r).trans (decide_eq_true_iff).symm)
    unfold State.weighingSweep State.modifyAcc
    dsimp only
    rw [Accumulator.offer_eq, hcal, hsupply, taken, abandonedBy_eq]
  unfold State.direct
  cases hc : u.tracker.cycle <;> dsimp only
  case check => simp [weighed, isWeighingSweep, isCaptureSweep]
  case weigh => cases armed <;> simp [weighed, hcal, hsupply, isWeighingSweep, isCaptureSweep]
  case lift => cases armed <;> simp [hcal, hsupply, isWeighingSweep, isCaptureSweep]
  all_goals simp [isWeighingSweep, isCaptureSweep]

/-- What the steps of a record make of the weighing unit. -/
theorem State.takeSteps_weigh (s : State) (r : SweepRecord) :
    let cy' := (s.takeSteps r).tracker.cycle
    let acc := if accEmptied s r cy' then noSamples else s.weigh.acc
    let bins := if binsEmptied s r cy' then noForces else s.weigh.bins
    let armed := s.tracker.capture.isSome
    (s.takeSteps r).weigh = { s.weigh with
      acc := if isWeighingSweep cy' armed then sweptAcc s r acc else acc
      bins := if isCaptureSweep cy' armed then
        captureSweep bins s.cal.profile s.supply.state (liftRate s.tracker.prevBoom r) r else bins } := by
  have cycle : (s.takeSteps r).tracker.cycle = (s.changeCycle r).tracker.cycle := by rw [State.takeSteps_tracker]
  dsimp only
  rw [cycle]
  unfold State.takeSteps
  rw [State.direct_weigh (s := s) (by simp) (by simp), State.recordBoom_eq]
  dsimp only
  rw [State.changeCycle_weigh]

end Sys2Proof.Machine
end

section
/-! A sweep's end, with what it makes of the weighing unit and of the ports. -/

namespace Sys2Proof.Machine

/-- What the end of a weighing makes of the tracker (R30, R32). -/
theorem State.enterCarry_tracker (s : State) : s.enterCarry.tracker = { s.tracker with
    cycle := .carry, held := some (heldAfter s.tracker.held s.windowResult)
    overload := s.enterCarry.tracker.overload } := by
  unfold State.enterCarry
  dsimp only
  split
  · rfl
  · rw [State.overloadCheck_tracker, State.overloadCheck_tracker]
    rfl

theorem State.takeSteps_ports (s : State) (r : SweepRecord) : (s.takeSteps r).ports = (s.changeCycle r).ports := by
  rw [State.takeSteps, State.direct_eq, State.recordBoom_eq]

/-- An abort changes no more of the weighing unit than its bins (R45). -/
theorem State.abortCapture_acc (s : State) : s.abortCapture.weigh.acc = s.weigh.acc := by
  unfold State.abortCapture
  split <;> rfl

/-- What a record `r` taken from `s` to `t`, its cycle state changing in `v`, makes of the weighing unit and the
ports. -/
structure RecordWeighed (s t : State) (r : SweepRecord) (v : State) : Prop where
  acc : t.weigh.acc = (v.takeSteps r).weigh.acc
  trim : t.weigh.zeroTrim = s.weigh.zeroTrim
  bins : ¬aborts s r → t.weigh.bins = (v.takeSteps r).weigh.bins ∧ v.weigh.bins = s.weigh.bins
  ports : t.ports = (v.changeCycle r).ports

theorem RecordWeighed.of_same {s p t w v : State} {r : SweepRecord} (h : RecordWeighed p w r v) (hp : p = { s with
      link := p.link, ports := p.ports, arb := p.arb, openChoice := p.openChoice })
    (hw : t.weigh = w.weigh) (ht : t.ports = w.ports) : RecordWeighed s t r v := by
  rw [hp] at h
  exact ⟨hw ▸ h.acc, hw ▸ h.trim, hw ▸ h.bins, ht ▸ h.ports⟩

/-- Every record is taken so, from a state with the ports of the one before. -/
theorem State.takeRecord_weighed {s : State} (hi : s.arb.items = []) (r : SweepRecord) :
    ∃ v, RecordTaken s (s.takeRecord r) r (s.takeRecord r).arb.items v ∧ RecordWeighed s (s.takeRecord r) r v ∧
      v.ports = s.ports := by
  have trim : (s.takeRecord r).weigh.zeroTrim = s.weigh.zeroTrim := by simp
  have asked : { s with openChoice := s.openChoice + 1 } = { s with
    link := s.link, ports := s.ports, arb := s.arb, openChoice := s.openChoice + 1 } := rfl
  rcases s.takeRecord_cases r with ⟨ha, h⟩ | ⟨ha, h⟩ | ⟨ha, h⟩ <;> rw [h] at trim ⊢
  · exact ⟨_, .of_unaborted hi ha, ⟨rfl, trim, fun _ => ⟨rfl, rfl⟩, State.takeSteps_ports _ _⟩, rfl⟩
  · exact ⟨_, (RecordTaken.of_aborted_before (s := { s with openChoice := s.openChoice + 1 }) hi ha).of_same
      asked rfl rfl, ⟨rfl, trim, fun hn => absurd ha hn, State.takeSteps_ports _ _⟩, State.abortCapture_ports _⟩
  · exact ⟨_, (RecordTaken.of_aborted_after (s := { s with openChoice := s.openChoice + 1 }) hi ha).of_same
      asked rfl rfl, ⟨State.abortCapture_acc _, trim, fun hn => absurd ha hn,
        (State.abortCapture_ports _).trans (State.takeSteps_ports _ _)⟩, rfl⟩

/-- The end of a sweep, with what it makes of the weighing unit; the ports it finds have at most counted NODE (R15). -/
theorem SweepEnds.weighed {c : Instr} {s : State} {sw : Sweep} (h : SweepEnds c s sw) :
    ∃ t all v, Machine.exec c s = .next t ∧ RecordTaken s t (sweepRecord s.link sw) all v ∧ handsItems s t sw all ∧
      RecordWeighed s t (sweepRecord s.link sw) v ∧ (v.ports = s.ports ∨ v.ports = (s.raise .node).ports) := by
  obtain ⟨u, hexec, same, roles, ports⟩ := h.exec
  obtain ⟨k, n, hend⟩ := u.endSweep_eq sw
  rw [sweepRecord_congr roles] at hend
  obtain ⟨v, taken, weighed, kept⟩ := u.sweepOver.takeRecord_weighed rfl (sweepRecord s.link sw)
  have same' : u.sweepOver = { s with
      link := u.sweepOver.link, ports := u.sweepOver.ports, arb := u.sweepOver.arb,
      openChoice := u.sweepOver.openChoice } := by
    rw [same]
    rfl
  exact ⟨_, _, v, hexec, taken.of_same same' (by rw [hend]) (by rw [hend]), ⟨k, by rw [hend, same]⟩,
    weighed.of_same same' (by rw [hend]) (by rw [hend]), kept.symm ▸ ports⟩

end Sys2Proof.Machine
end

section
/-! The laws of the window accumulator, the cycle tracker and the supply monitor (R21, R52, R61, R162): each thing that
moves one of the three keeps its law, and so every step. -/

namespace Sys2Proof.Machine

/-! ### The window accumulator (R52, R53, R61) -/

/-- The law of R52 and R61 is one of the accumulator. -/
theorem AccumulatorLaw.congr {s t : State} (h : AccumulatorLaw s) (he : t.weigh.acc = s.weigh.acc) :
    AccumulatorLaw t := by
  unfold AccumulatorLaw
  rw [he]
  exact h

theorem AccumulatorLaw.of_empty {s : State} (h : s.weigh.acc = noSamples) : AccumulatorLaw s := by
  unfold AccumulatorLaw
  rw [h]
  simp

/-- An abandon marks the accumulator alone (R29). -/
theorem AccumulatorLaw.of_abandoned {s t : State} {b : Bool} (h : AccumulatorLaw s)
    (he : t.weigh.acc = { s.weigh.acc with abandoned := b }) : AccumulatorLaw t := by
  unfold AccumulatorLaw
  rw [he]
  exact h

theorem sampleMass_within (curve : Vector CurveBin 16) (f : Profile) (r : SweepRecord) :
    -2000 ≤ sampleMass curve f r ∧ sampleMass curve f r ≤ 30000 := by
  unfold sampleMass clamp
  split <;> [omega; split <;> omega]

/-- A sample in the range of R60 keeps the figures of R61 in theirs. -/
theorem AccumulatorLaw.weighedSweep {s t : State} {a : Accumulator} {taken sat nopitch : Bool} {m : Int}
    (h : AccumulatorLaw s) (ha : a = { s.weigh.acc with abandoned := a.abandoned }) (hm : -2000 ≤ m ∧ m ≤ 30000)
    (he : t.weigh.acc = weighedSweep a taken m sat nopitch) : AccumulatorLaw t := by
  have marked : AccumulatorLaw { s with weigh := { s.weigh with acc := a } } := h.of_abandoned ha
  obtain ⟨hcount, hskipped, hlow, hhigh, hmin, hmax, hleast, hmost, hle⟩ := marked
  dsimp only at hcount hskipped hlow hhigh hmin hmax hleast hmost hle
  unfold Machine.weighedSweep at he
  unfold AccumulatorLaw
  rw [he]
  split
  · exact ⟨hcount, hskipped, hlow, hhigh, hmin, hmax, hleast, hmost, hle⟩
  split
  · exact ⟨hcount, by dsimp only; omega, hlow, hhigh, hmin, hmax, hleast, hmost, hle⟩
  split
  · exact ⟨hcount, hskipped, hlow, hhigh, hmin, hmax, hleast, hmost, hle⟩
  · have least : -2000 ≤ min (a.min.getD m) m := by
      cases hn : a.min with
      | none => simp [hm.1]
      | some x => simpa [hm.1] using hleast x hn
    have most : max (a.max.getD m) m ≤ 30000 := by
      cases hx : a.max with
      | none => simp [hm.2]
      | some x => simpa [hm.2] using hmost x hx
    refine ⟨by dsimp only; omega, hskipped, by dsimp only; omega, by dsimp only; omega, by simp, by simp,
      by simpa using least, by simpa using most, ?_⟩
    simp only [Option.mem_def, Option.some.injEq, forall_eq']
    exact (min_le_right _ _).trans (le_max_right _ _)

theorem AccumulatorLaw.takeSteps {s : State} (h : AccumulatorLaw s) (r : SweepRecord) :
    AccumulatorLaw (s.takeSteps r) := by
  have steps := congrArg Weigh.acc (s.takeSteps_weigh r)
  dsimp only at steps
  have opened : ∀ c, AccumulatorLaw { s with weigh := { s.weigh with
      acc := if accEmptied s r c then noSamples else s.weigh.acc } } := by
    intro c
    split
    · exact .of_empty rfl
    · exact h
  split at steps
  · exact (opened (s.takeSteps r).tracker.cycle).weighedSweep rfl (sampleMass_within _ _ r) steps
  · exact (opened (s.takeSteps r).tracker.cycle).congr steps

/-! ### The cycle tracker (R21 to R45, R80) -/

theorem TrackerLaw.congr {s t : State} (h : TrackerLaw s) (he : t.tracker = s.tracker) : TrackerLaw t := by
  unfold TrackerLaw
  rw [he]
  exact h

theorem TrackerLaw.timer {s : State} (h : TrackerLaw s) : s.tracker.timer ≤ max16 := by
  obtain ⟨_, _, _, _, htimer, _⟩ := h
  exact htimer

/-- Outside RETURN and CHECK no residue check is pending (R38). -/
theorem TrackerLaw.nothingPending {s : State} (h : TrackerLaw s) (hr : s.tracker.cycle ≠ .ret)
    (hc : s.tracker.cycle ≠ .check) : s.tracker.residuePending = false := by
  obtain ⟨hpending, _⟩ := h
  by_contra hp
  obtain ⟨h' | h', _⟩ := hpending (by simpa using hp)
  · exact hr h'
  · exact hc h'

/-- A move that sets no mode, keeps the reference, and comes without a check pending to a state other than CHECK, to
IDLE only without a result and without overload risks. -/
theorem TrackerLaw.moves {s t : State} {x : Tracker} (h : TrackerLaw s) (he : t.tracker = x)
    (hp : x.residuePending = false) (hc : x.cycle ≠ .check)
    (hi : x.cycle = .idle → x.held = none ∧ x.overload = ⟨false, false⟩)
    (hz : x.zeroPending = true → s.tracker.zeroPending = true)
    (hk : x.capture.isSome = true → s.tracker.capture.isSome = true) (ht : x.timer ≤ max16)
    (hr : x.dumpRef = s.tracker.dumpRef) : TrackerLaw t := by
  subst he
  obtain ⟨_, _, _, hmodes, _, hindex⟩ := h
  exact ⟨by simp [hp], fun h' => absurd h' hc, hi, fun ⟨z, k⟩ => hmodes ⟨hz z, hk k⟩, ht, by rwa [hr]⟩

/-- A move between RETURN and CHECK, with the check still pending in CHECK. -/
theorem TrackerLaw.checks {s t : State} {c : CycleState} (h : TrackerLaw s)
    (ht : t.tracker = { s.tracker with cycle := c })
    (hc : c = .ret ∨ (c = .check ∧ s.tracker.residuePending = true)) : TrackerLaw t := by
  obtain ⟨hpending, _, _, hmodes, htimer, hindex⟩ := h
  unfold TrackerLaw
  rw [ht]
  refine ⟨fun hp => ⟨hc.imp id And.left, (hpending hp).2⟩, fun h' => ?_, fun h' => ?_, hmodes, htimer, hindex⟩
  · rcases hc with hc | ⟨_, hp⟩
    · exact absurd (hc.symm.trans h') (by decide)
    · exact hp
  · rcases hc with hc | ⟨hc, _⟩ <;> exact absurd (hc.symm.trans h') (by decide)

theorem TrackerLaw.forcedIdle {s : State} (h : TrackerLaw s) : TrackerLaw s.forcedIdle := by
  have timer := h.timer
  unfold State.forcedIdle
  rw [State.discardCapture_eq]
  dsimp only
  split <;> exact h.moves rfl rfl nofun (fun _ => ⟨rfl, rfl⟩) id id timer rfl

theorem TrackerLaw.dump {s : State} (h : TrackerLaw s) (hc : cycling s.tracker.cycle) (r : SweepRecord) :
    TrackerLaw (s.dump r) := by
  have timer := h.timer
  have quiet := h.nothingPending (by rcases hc with h | h | h <;> simp [h]) (by rcases hc with h | h | h <;> simp [h])
  unfold State.dump
  rw [State.discardCapture_eq]
  dsimp only
  split
  · split <;> exact h.moves rfl quiet nofun nofun id id timer rfl
  · exact h.moves rfl quiet nofun nofun id id timer rfl

theorem TrackerLaw.endCaptureLift {s : State} (h : TrackerLaw s) (hp : s.tracker.residuePending = false) :
    TrackerLaw s.endCaptureLift := by
  unfold State.endCaptureLift
  split
  · exact h
  · exact h.moves rfl hp nofun nofun id nofun h.timer rfl

theorem TrackerLaw.endWindow {s : State} (h : TrackerLaw s) (hp : s.tracker.residuePending = false) :
    TrackerLaw s.endWindow := by
  unfold State.endWindow State.endZeroing
  split
  · split
    · exact h.moves rfl hp nofun nofun nofun id h.timer rfl
    · exact h.moves rfl hp nofun nofun id id h.timer rfl
  · exact h.moves s.enterCarry_tracker hp nofun nofun id id h.timer rfl

theorem TrackerLaw.endCheck {s : State} (h : TrackerLaw s) : TrackerLaw s.endCheck := by
  unfold State.endCheck
  dsimp only
  split
  · split <;> exact h.moves rfl rfl nofun nofun id id h.timer rfl
  · exact h.moves rfl rfl nofun nofun id id h.timer rfl

theorem TrackerLaw.enterDig {s : State} (h : TrackerLaw s) : TrackerLaw s.enterDig :=
  h.moves rfl rfl nofun nofun id id (Nat.zero_le _) rfl

theorem TrackerLaw.boomTransition {s : State} (h : TrackerLaw s) (boom : Int) :
    TrackerLaw (s.boomTransition boom) := by
  have timer := h.timer
  have goes : ∀ {t : State} {c : CycleState}, s.tracker.residuePending = false → c ≠ .check → c ≠ .idle →
      t.tracker = { s.tracker with cycle := c } → TrackerLaw t := by
    intro t c hp hc hi ht
    exact h.moves ht hp hc (fun h' => absurd h' hi) id id timer rfl
  unfold State.boomTransition
  cases hc : s.tracker.cycle <;> dsimp only
  case idle => split <;> [exact h.enterDig; exact h]
  case dig =>
    have quiet := h.nothingPending (by simp [hc]) (by simp [hc])
    split <;> [exact goes (c := .lift) quiet nofun nofun rfl; exact h]
  case lift =>
    have quiet := h.nothingPending (by simp [hc]) (by simp [hc])
    rw [State.discardCapture_eq]
    split
    · exact goes (c := .weigh) quiet nofun nofun rfl
    · split <;> [exact goes (c := .dig) quiet nofun nofun rfl; exact h]
  case weigh =>
    have quiet := h.nothingPending (by simp [hc]) (by simp [hc])
    split
    · exact goes (c := .lift) quiet nofun nofun rfl
    split
    · exact h
    · split <;> [exact h; exact h.endWindow quiet]
  case carry =>
    have quiet := h.nothingPending (by simp [hc]) (by simp [hc])
    split
    · exact h.moves s.startReweigh_tracker quiet nofun nofun id id timer rfl
    · exact h
  case ret =>
    split
    · exact h.enterDig
    · split
      · split
        · rename_i hp
          exact h.checks (c := .check) rfl (.inr ⟨rfl, hp.1⟩)
        · exact h
      · exact h
  case check =>
    split
    · exact h.endCheck
    · split <;> [exact h.checks (c := .ret) rfl (.inl rfl); exact h]

theorem TrackerLaw.changeCycle {s : State} (h : TrackerLaw s) (r : SweepRecord) : TrackerLaw (s.changeCycle r) := by
  by_cases hu : usable r
  case neg =>
    rw [State.changeCycle_of_not_usable hu]
    split <;> [exact h; exact h.forcedIdle]
  by_cases hd : dumpSeen s r
  case pos =>
    rw [State.changeCycle_of_dump hu hd]
    split
    · exact h.moves rfl rfl nofun nofun id id h.timer rfl
    · exact h.dump (hd.2.resolve_right ‹_›) r
  by_cases he : s.tracker.capture.isSome = true ∧ captureEnds s r
  case pos =>
    obtain ⟨ha, hc⟩ := he
    rw [State.changeCycle_of_captureEnds hu hd ha hc]
    exact h.endCaptureLift (h.nothingPending (by rcases hc.1 with h | h <;> simp [h])
      (by rcases hc.1 with h | h <;> simp [h]))
  case neg =>
    rw [State.changeCycle_of_moves hu hd he]
    exact h.boomTransition _

/-- The law does not speak of the previous boom and of the previous record. -/
theorem TrackerLaw.of_remembered {s t : State} {boom : Option Int} {q : Option SweepRecord} (h : TrackerLaw s)
    (ht : t.tracker = { s.tracker with prevBoom := boom, prevRecord := q }) : TrackerLaw t := by
  unfold TrackerLaw
  rw [ht]
  exact h

theorem TrackerLaw.takeSteps {s : State} (h : TrackerLaw s) (r : SweepRecord) : TrackerLaw (s.takeSteps r) :=
  (h.changeCycle r).of_remembered (s.takeSteps_tracker r)

/-- Capture may be disarmed (R45, R86). -/
theorem TrackerLaw.disarmed {s t : State} (h : TrackerLaw s) (ht : t.tracker = { s.tracker with capture := none }) :
    TrackerLaw t := by
  obtain ⟨hpending, hcheck, hidle, _, htimer, hindex⟩ := h
  unfold TrackerLaw
  rw [ht]
  exact ⟨hpending, hcheck, hidle, by simp, htimer, hindex⟩

theorem TrackerLaw.abortCapture {s : State} (h : TrackerLaw s) : TrackerLaw s.abortCapture :=
  h.disarmed s.abortCapture_tracker

end Sys2Proof.Machine
end

section
/-! SUPPORT. What the commands leave of the cycle tracker, the window accumulator and the supply: the operations on
bays, trucks and the log, and the works of the requests and items that are not the tracker's. -/

namespace Sys2Proof.Machine

/-! ### Operations that leave the cycle -/

/-- The tracker, the accumulator, the supply monitor and the shift's minimum VSYS are as they were. -/
abbrev cycleKept (s t : State) : Prop :=
  t.tracker = s.tracker ∧ t.weigh.acc = s.weigh.acc ∧ t.supply = s.supply ∧ t.shift.minVsys = s.shift.minVsys

theorem cycleKept.refl (s : State) : cycleKept s s := ⟨rfl, rfl, rfl, rfl⟩

@[simp] theorem State.place_cycle (s : State) (ref : TruckRef) (e : TruckEntry) : cycleKept s (s.place ref e) := by
  unfold State.place
  split <;> exact .refl s

@[simp] theorem State.identify_cycle (s : State) (d : Side) (tag : Nat) : cycleKept s (s.identify d tag) := by
  unfold State.identify
  dsimp only
  split
  · exact .refl s
  · split <;> simp [cycleKept]

@[simp] theorem State.writeTruck_cycle (s : State) (tag target max : Nat) (material : Fin 16) (pinned : Bool)
    (way : Option (Fin 4)) : cycleKept s (s.writeTruck tag target max material pinned way).1 := by
  unfold State.writeTruck
  split
  · exact .refl s
  · split <;> simp [cycleKept]

@[simp] theorem State.openFor_cycle (s : State) (d : Side) (tag : Nat) : cycleKept s (s.openFor d tag) := by
  simp [cycleKept, State.openFor, State.openLoad]

@[simp] theorem State.ensureLoad_cycle (s : State) (d : Side) : cycleKept s (s.ensureLoad d) := by
  unfold State.ensureLoad
  split <;> exact .refl s

@[simp] theorem State.commit_cycle (s : State) (d : Side) (w : WindowResult) (cycleTime : Nat) :
    cycleKept s (s.commit d w cycleTime) := by
  simp [cycleKept, State.commit]

@[simp] theorem State.applyResidue_cycle (s : State) (r : Nat) (ref : DumpRef) :
    cycleKept s (s.applyResidue r ref) := by
  unfold State.applyResidue
  dsimp only
  split <;> simp [cycleKept]

/-! ### Operations that may renumber a load (R101) -/

/-- All of the cycle is as it was, but that the truck-dump reference may name its load by another number. -/
abbrev cycleSteady (s t : State) : Prop :=
  t.tracker = { s.tracker with dumpRef := t.tracker.dumpRef } ∧
    t.tracker.dumpRef.map (fun r => r.index) = s.tracker.dumpRef.map (fun r => r.index) ∧
    t.weigh.acc = s.weigh.acc ∧ t.supply = s.supply ∧ t.shift.minVsys = s.shift.minVsys

theorem cycleKept.steady {s t : State} (h : cycleKept s t) : cycleSteady s t := by
  obtain ⟨htracker, hrest⟩ := h
  rw [cycleSteady, htracker]
  exact ⟨rfl, rfl, hrest⟩

theorem cycleSteady.trans {s t u : State} (h : cycleSteady s t) (h' : cycleSteady t u) : cycleSteady s u := by
  obtain ⟨htracker, hindex, hacc, hsupply, hmin⟩ := h
  obtain ⟨htracker', hindex', hacc', hsupply', hmin'⟩ := h'
  refine ⟨?_, hindex'.trans hindex, hacc'.trans hacc, hsupply'.trans hsupply, hmin'.trans hmin⟩
  rw [htracker', htracker]

theorem State.renumber_steady (s : State) (d : Side) (logged : Nat) : cycleSteady s (s.renumber d logged) := by
  have index : ∀ (r : DumpRef) (old new : Nat), (r.renumbered d old new).index = r.index := by
    intro r old new
    unfold DumpRef.renumbered
    split <;> rfl
  unfold State.renumber
  dsimp only
  split
  · refine ⟨by simp, ?_, by simp, by simp, by simp⟩
    cases hr : s.tracker.dumpRef <;> simp [hr, index]
  · exact (cycleKept.refl s).steady

theorem State.closeLoad_steady (s : State) (d : Side) (reason : CloseReason) :
    cycleSteady s (s.closeLoad d reason) := by
  unfold State.closeLoad
  dsimp only
  refine cycleSteady.trans (cycleKept.steady ?_) (State.renumber_steady _ d.other _)
  split <;> simp [cycleKept, State.countTrip]

theorem State.truckArrives_steady (s : State) (d : Side) (tag : Nat) : cycleSteady s (s.truckArrives d tag) := by
  have identified : cycleSteady s ((s.identify d tag).modifyBay d Bay.restate) :=
    cycleKept.steady (by simp [cycleKept])
  have waits : ∀ t, cycleSteady s (if t = tag then s else (s.closeLoad d .newTruck).openFor d tag) := by
    intro t
    split
    · exact (cycleKept.refl s).steady
    · exact (s.closeLoad_steady d .newTruck).trans (State.openFor_cycle _ d tag).steady
  unfold State.truckArrives
  dsimp only
  split
  case h_1 => exact (s.openFor_cycle d tag).steady
  case h_2 => split <;> [exact (cycleKept.refl s).steady; exact identified]
  all_goals split <;> [exact identified; exact waits _]

theorem State.tagEvent_steady (s : State) (e : TagEvent) : cycleSteady s (s.tagEvent e) := by
  unfold State.tagEvent
  split
  · exact cycleKept.steady ⟨rfl, rfl, rfl, rfl⟩
  · exact s.truckArrives_steady _ _

/-! ### The works of requests -/

/-- Work that leaves the cycle, but for a load's number, whatever payload it is given. -/
abbrev SteadyWork (work : List Byte → State → State × Reply) : Prop :=
  ∀ payload s, cycleSteady s (work payload s).1

theorem viewWork_steady (figures : State → List Byte) : SteadyWork (viewWork figures) :=
  fun _ s => (cycleKept.refl s).steady

theorem viewBayWork_steady : SteadyWork viewBayWork := by
  intro payload s
  unfold viewBayWork
  split <;> exact (cycleKept.refl s).steady

theorem viewTruckWork_steady : SteadyWork viewTruckWork := by
  intro payload s
  unfold viewTruckWork
  split <;> (repeat' split) <;> exact (cycleKept.refl s).steady

theorem viewCurveWork_steady : SteadyWork viewCurveWork := by
  intro payload s
  unfold viewCurveWork
  dsimp only
  split
  · split <;> exact (cycleKept.refl s).steady
  · exact (cycleKept.refl s).steady

theorem setNoticesWork_steady (p : Port) : SteadyWork (setNoticesWork p) := by
  intro payload s
  unfold setNoticesWork
  dsimp only
  split <;> exact cycleKept.steady (by simp [cycleKept])

theorem selectBayWork_steady : SteadyWork selectBayWork := by
  intro payload s
  unfold selectBayWork
  split <;> exact cycleKept.steady ⟨rfl, rfl, rfl, rfl⟩

theorem assignTruckWork_steady : SteadyWork assignTruckWork := by
  intro payload s
  have stays := (cycleKept.refl s).steady
  unfold assignTruckWork
  dsimp only
  split
  · exact stays
  · split
    · exact stays
    split
    · exact stays
    split
    · exact stays
    split
    · exact stays
    · exact s.truckArrives_steady _ _

theorem closeLoadWork_steady (p : Port) : SteadyWork (closeLoadWork p) := by
  intro payload s
  have stays := (cycleKept.refl s).steady
  unfold closeLoadWork
  dsimp only
  split
  · exact stays
  · split
    · exact stays
    · split <;> [exact cycleKept.steady ⟨rfl, rfl, rfl, rfl⟩; exact stays]
    all_goals split <;> [exact s.closeLoad_steady _ _; exact stays]

theorem setLoadTargetWork_steady : SteadyWork setLoadTargetWork := by
  intro payload s
  unfold setLoadTargetWork
  dsimp only
  split
  · exact (cycleKept.refl s).steady
  · (repeat' split) <;> exact cycleKept.steady ⟨rfl, rfl, rfl, rfl⟩

theorem writeTruckWork_steady : SteadyWork writeTruckWork := by
  intro payload s
  unfold writeTruckWork
  dsimp only
  (repeat' split) <;> exact cycleKept.steady (by simp [cycleKept])

theorem dropTruckWork_steady : SteadyWork dropTruckWork := by
  intro payload s
  unfold dropTruckWork
  dsimp only
  split
  · exact (cycleKept.refl s).steady
  · split <;> exact cycleKept.steady ⟨rfl, rfl, rfl, rfl⟩

theorem writeMaterialWork_steady : SteadyWork writeMaterialWork := by
  intro payload s
  unfold writeMaterialWork
  dsimp only
  (repeat' split) <;> exact cycleKept.steady ⟨rfl, rfl, rfl, rfl⟩

theorem nodeAccessWork_steady : SteadyWork nodeAccessWork := by
  intro payload s
  obtain ⟨_, hw⟩ := nodeAccessWork_slots payload s
  rw [hw]
  exact cycleKept.steady ⟨rfl, rfl, rfl, rfl⟩

theorem nodeResultWork_steady : SteadyWork nodeResultWork := by
  intro payload s
  obtain ⟨_, hw⟩ := nodeResultWork_slots payload s
  rw [hw]
  exact cycleKept.steady ⟨rfl, rfl, rfl, rfl⟩

theorem stagePieceWork_steady : SteadyWork stagePieceWork := by
  intro payload s
  unfold stagePieceWork
  split <;> exact cycleKept.steady ⟨rfl, rfl, rfl, rfl⟩

theorem installCurveWork_steady : SteadyWork installCurveWork := by
  intro payload s
  unfold installCurveWork
  split
  · exact (cycleKept.refl s).steady
  · split <;> exact cycleKept.steady ⟨rfl, rfl, rfl, rfl⟩

theorem setProfileWork_steady : SteadyWork setProfileWork := by
  intro payload s
  unfold setProfileWork
  split
  · exact (cycleKept.refl s).steady
  · split <;> exact cycleKept.steady ⟨rfl, rfl, rfl, rfl⟩

end Sys2Proof.Machine
end

section
/-! Every step keeps the laws of the window accumulator, the cycle tracker and the supply monitor. -/

namespace Sys2Proof.Machine

/-! ### The three laws together -/

/-- The laws of the window accumulator, the cycle tracker and the supply monitor. -/
abbrev CycleLaws (s : State) : Prop := AccumulatorLaw s ∧ TrackerLaw s ∧ SupplyLaw s

theorem SupplyLaw.congr {s t : State} (h : SupplyLaw s) (hs : t.supply = s.supply)
    (hm : t.shift.minVsys = s.shift.minVsys) : SupplyLaw t := by
  unfold SupplyLaw
  rw [hs, hm]
  exact h

theorem CycleLaws.kept {s t : State} (h : CycleLaws s) (hk : cycleKept s t) : CycleLaws t := by
  obtain ⟨hacc, htracker, hsupply⟩ := h
  obtain ⟨tracker, acc, supply, minVsys⟩ := hk
  exact ⟨hacc.congr acc, htracker.congr tracker, hsupply.congr supply minVsys⟩

/-- The laws do not speak of the number by which the truck-dump reference names its load. -/
theorem CycleLaws.steady {s t : State} (h : CycleLaws s) (hk : cycleSteady s t) : CycleLaws t := by
  obtain ⟨hacc, ⟨hpending, hcheck, hidle, hmodes, htimer, hindex⟩, hsupply⟩ := h
  obtain ⟨tracker, index, acc, supply, minVsys⟩ := hk
  refine ⟨hacc.congr acc, ?_, hsupply.congr supply minVsys⟩
  have some : t.tracker.dumpRef.isSome = s.tracker.dumpRef.isSome := by
    rw [← Option.isSome_map, index, Option.isSome_map]
  have range : ∀ r ∈ t.tracker.dumpRef, 1 ≤ r.index ∧ r.index ≤ 12 := by
    intro r hr
    have mapped : r.index ∈ s.tracker.dumpRef.map fun r => r.index := index ▸ Option.mem_map_of_mem _ hr
    obtain ⟨q, hq, hi⟩ := Option.mem_map.1 mapped
    exact hi ▸ hindex q hq
  unfold TrackerLaw
  rw [tracker]
  dsimp only
  rw [some]
  exact ⟨hpending, hcheck, hidle, hmodes, htimer, range⟩

/-- A reset keeps the laws (R18, R48, R73, R164). -/
theorem CycleLaws.of_reset {s : State} (hacc : s.weigh.acc = noSamples) (ht : s.tracker = Tracker.afterReset)
    (hs : s.supply = Supply.afterReset) (hm : s.shift.minVsys = 400) : CycleLaws s := by
  refine ⟨.of_empty hacc, ?_, ?_⟩
  · unfold TrackerLaw
    rw [ht]
    simp [Tracker.afterReset]
  · unfold SupplyLaw
    rw [hs, hm]
    simp [Supply.afterReset]

/-! ### The end of a sweep -/

theorem CycleLaws.takeSteps {s : State} (h : CycleLaws s) (r : SweepRecord) : CycleLaws (s.takeSteps r) := by
  obtain ⟨hacc, htracker, hsupply⟩ := h
  exact ⟨hacc.takeSteps r, htracker.takeSteps r, hsupply.congr (by simp) (by simp)⟩

theorem CycleLaws.abortCapture {s : State} (h : CycleLaws s) : CycleLaws s.abortCapture := by
  obtain ⟨hacc, htracker, hsupply⟩ := h
  exact ⟨hacc.congr s.abortCapture_acc, htracker.abortCapture, hsupply.congr (by simp) (by simp)⟩

theorem CycleLaws.remember {s : State} (h : CycleLaws s) (r : SweepRecord) : CycleLaws (s.remember r) := by
  obtain ⟨hacc, htracker, hsupply⟩ := h
  exact ⟨hacc, htracker.of_remembered rfl, hsupply⟩

theorem CycleLaws.takeRecord {s : State} (h : CycleLaws s) (r : SweepRecord) : CycleLaws (s.takeRecord r) := by
  have asked : CycleLaws { s with openChoice := s.openChoice + 1 } := h
  rcases s.takeRecord_cases r with ⟨_, he⟩ | ⟨_, he⟩ | ⟨_, he⟩ <;> rw [he]
  · exact (h.takeSteps r).remember r
  · exact (asked.abortCapture.takeSteps r).remember r
  · exact (asked.takeSteps r).abortCapture.remember r

theorem CycleLaws.endSweep {s : State} (h : CycleLaws s) (sw : Sweep) : CycleLaws (s.endSweep sw) := by
  have ended : CycleLaws s.sweepOver := h
  obtain ⟨k, n, he⟩ := s.endSweep_eq sw
  rw [he]
  exact ended.takeRecord _

theorem CycleLaws.serveEnds {s : State} (h : CycleLaws s) (sw : Sweep) (i : Fin 2) (a : Access) (seen : Option NodeType)
    (x : AccessResult) : CycleLaws (s.serveEnds sw i a seen x) := by
  rw [State.serveEnds_hears, State.hears_eq]
  exact CycleLaws.endSweep (h.kept (by simp [cycleKept])) sw

/-! ### The grants -/

/-- A grant of a request whose work keeps the laws keeps them. -/
theorem CycleLaws.grantRequest {s : State} (h : CycleLaws s) (k : ReqKind) (p : Port) (calen : Option Bool)
    {work : List Byte → State → State × Reply} (hw : ∀ payload u, CycleLaws u → CycleLaws (work payload u).1) :
    ∃ t, grantRequest k p calen work s = .next t ∧ CycleLaws t := by
  have asked : CycleLaws ((s.dropRequest p).readCalen calen) := h.kept (by simp [cycleKept])
  refine grantRequest_keeps h (fun r a _ _ => asked.kept (by simp [cycleKept])) (fun r _ _ _ _ _ => ?_)
  exact (hw r.payload _ asked).kept (by simp [cycleKept])

theorem CycleLaws.grantSteady {s : State} (h : CycleLaws s) (k : ReqKind) (p : Port) (calen : Option Bool)
    {work : List Byte → State → State × Reply} (hw : SteadyWork work) :
    ∃ t, Machine.grantRequest k p calen work s = .next t ∧ CycleLaws t :=
  h.grantRequest k p calen fun payload u hu => hu.steady (hw payload u)

/-- A grant of an item whose work keeps the laws keeps them. -/
theorem CycleLaws.grantItem {s : State} (h : CycleLaws s) {work : Item → Option (State → State)}
    (hw : ∀ i f, work i = some f → ∀ u, CycleLaws u → CycleLaws (f u)) :
    ∃ t, grantItem work s = .next t ∧ CycleLaws t := by
  have dropped : CycleLaws s.dropItem := h
  exact grantItem_keeps h fun i f _ _ hf => (hw i f hf _ dropped).kept (by simp [cycleKept])

/-- A truck dump's reference names a pass of the list, and pends a check only in RETURN (R35, R109 to R111). -/
theorem CycleLaws.truckDump {s : State} (h : CycleLaws s) (w : WindowResult) (cycleTime : Nat) (choice : BayChoice)
    (dump : Nat) : CycleLaws (s.truckDump w cycleTime choice dump) := by
  unfold State.truckDump
  dsimp only
  generalize hl : s.ensureLoad (s.resolve choice) = loaded
  have committed : CycleLaws ((loaded.commit (s.resolve choice) w cycleTime).count fun c => c.truckDump w cycleTime) :=
    h.kept (by simp [cycleKept, ← hl])
  generalize (loaded.commit (s.resolve choice) w cycleTime).count (fun c => c.truckDump w cycleTime) = u at committed ⊢
  obtain ⟨hacc, ⟨hpending, hcheck, hidle, hmodes, htimer, _⟩, hsupply⟩ := committed
  refine ⟨hacc, ⟨fun hp => ⟨?_, rfl⟩, fun hc => ?_, hidle, hmodes, htimer, ?_⟩, hsupply⟩
  · simp only [State.modifyTracker, Tracker.takeRef, Bool.or_eq_true, Bool.and_eq_true, beq_iff_eq] at hp
    rcases hp with hp | ⟨hret, _⟩
    · exact (hpending hp).1
    · exact .inl hret
  · simp [State.modifyTracker, Tracker.takeRef, hcheck hc]
  · simp only [State.modifyTracker, Tracker.takeRef, Option.mem_def, Option.some.injEq, forall_eq', commitIndex]
    omega

theorem CycleLaws.zeroBucketWork {s : State} (h : CycleLaws s) (payload : List Byte) :
    CycleLaws (zeroBucketWork payload s).1 := by
  unfold Machine.zeroBucketWork
  split
  · exact h
  split
  · exact h
  split
  · exact h
  · rename_i hk _
    obtain ⟨hacc, ⟨hpending, hcheck, hidle, _, htimer, hindex⟩, hsupply⟩ := h
    exact ⟨hacc, ⟨hpending, hcheck, hidle, fun ⟨_, hc⟩ => hk hc, htimer, hindex⟩, hsupply⟩

theorem CycleLaws.cancelZeroWork {s : State} (h : CycleLaws s) (payload : List Byte) :
    CycleLaws (cancelZeroWork payload s).1 := by
  obtain ⟨hacc, ⟨hpending, hcheck, hidle, _, htimer, hindex⟩, hsupply⟩ := h
  exact ⟨hacc, ⟨hpending, hcheck, hidle, nofun, htimer, hindex⟩, hsupply⟩

theorem CycleLaws.startCaptureWork {s : State} (h : CycleLaws s) (payload : List Byte) :
    CycleLaws (startCaptureWork payload s).1 := by
  unfold Machine.startCaptureWork
  split
  · exact h
  split
  · exact h
  · rename_i hz
    split
    · exact h
    split
    · exact h
    · obtain ⟨hacc, ⟨hpending, hcheck, hidle, _, htimer, hindex⟩, hsupply⟩ := h
      have dropped : s.tracker.dropHeld = { s.tracker with
          held := s.tracker.dropHeld.held, overload := s.tracker.dropHeld.overload } := by
        unfold Tracker.dropHeld
        split <;> rfl
      have idle : s.tracker.cycle = .idle → s.tracker.dropHeld = s.tracker := by
        intro hi
        unfold Tracker.dropHeld
        rw [hi]
        rfl
      refine ⟨hacc, ?_, hsupply⟩
      unfold TrackerLaw
      simp only [State.modifyTracker_tracker, State.emptyCaptureBins_tracker]
      refine ⟨?_, ?_, ?_, ?_, ?_, ?_⟩
      · rw [dropped]; exact hpending
      · rw [dropped]; exact hcheck
      · intro hi
        have hi' : s.tracker.cycle = .idle := by rw [dropped] at hi; exact hi
        rw [idle hi']
        exact hidle hi'
      · rw [dropped]; exact fun ⟨z, _⟩ => hz z
      · rw [dropped]; exact htimer
      · rw [dropped]; exact hindex

theorem CycleLaws.abortCaptureWork {s : State} (h : CycleLaws s) (payload : List Byte) :
    CycleLaws (abortCaptureWork payload s).1 := by
  unfold Machine.abortCaptureWork
  split
  · obtain ⟨hacc, htracker, hsupply⟩ := h
    exact ⟨hacc, htracker.disarmed rfl, hsupply⟩
  · exact h

/-- The shift that begins takes the last VSYS as its minimum (R156). -/
theorem CycleLaws.endShiftWork {s : State} (h : CycleLaws s) (p : Port) (payload : List Byte) :
    CycleLaws (endShiftWork p payload s).1 := by
  unfold Machine.endShiftWork
  split
  · obtain ⟨hacc, htracker, hlow, hhigh, hnone, hnone', hmin, hlast, _⟩ := h
    have supply : (s.endShift p).supply = s.supply := by simp [State.endShift]
    refine ⟨hacc.congr (by simp [State.endShift]), htracker.congr (by simp [State.endShift]), ?_⟩
    unfold SupplyLaw
    rw [supply]
    exact ⟨hlow, hhigh, hnone, hnone', hmin, hlast, hlast⟩
  · exact h

/-- A checked record's minimum VSYS is in range (V9 of R189). -/
theorem checkSnapshot_minVsys {payload : List Byte} {r : RawSnapshot} (h : checkSnapshot payload = .ok r) :
    r.minVsys ≤ 400 := by
  have passed : ∀ q : RawSnapshot, q.failing = none → q.minVsys ≤ 400 := by
    intro q hq
    have rest : q.restOk = true := by
      unfold RawSnapshot.failing at hq
      (repeat' split at hq) <;> simp_all
    simp only [RawSnapshot.restOk, Bool.and_eq_true, decide_eq_true_eq] at rest
    exact rest.2
  unfold checkSnapshot at h
  split at h
  · split at h
    · cases h
    · split at h
      · cases h
      · cases h
        exact passed _ ‹_›
  · cases h

theorem CycleLaws.restoreSnapshotWork {s : State} (h : CycleLaws s) (payload : List Byte) :
    CycleLaws (restoreSnapshotWork payload s).1 := by
  unfold Machine.restoreSnapshotWork
  split
  · split
    · exact h
    · rename_i hr
      obtain ⟨hacc, htracker, hlow, hhigh, hnone, hnone', hmin, hlast, _⟩ := h
      exact ⟨hacc, htracker, hlow, hhigh, hnone, hnone', hmin, hlast, checkSnapshot_minVsys hr⟩
  · exact h

/-! ### The supply and the clock -/

/-- The monitor's table keeps its counts in range and apart (R162). -/
theorem SupplyLaw.measured {s : State} (h : SupplyLaw s) {v : Nat} (hv : v ≤ 400) : SupplyLaw (s.measured v) := by
  obtain ⟨hlow, hhigh, hnone, hnone', _, _, _⟩ := h
  have judged : ∀ (m : Supply) (warn : Nat), m.lowCount ≤ 2 → m.highCount ≤ 2 → (m.state = .low → m.lowCount = 0) →
      (m.state = .normal → m.highCount = 0) → (m.judge warn v).lowCount ≤ 2 ∧ (m.judge warn v).highCount ≤ 2 ∧
        ((m.judge warn v).state = .low → (m.judge warn v).lowCount = 0) ∧
        ((m.judge warn v).state = .normal → (m.judge warn v).highCount = 0) ∧
        (m.judge warn v).minSince = m.minSince ∧ (m.judge warn v).lastVsys = m.lastVsys := by
    intro m warn h1 h2 h3 h4
    unfold Supply.judge
    cases hs : m.state <;> dsimp only
    case normal =>
      have none' := h4 hs
      (repeat' split) <;> simp_all
      omega
    case low =>
      have none := h3 hs
      (repeat' split) <;> simp_all
      omega
  obtain ⟨a, b, c, d, e, f⟩ := judged (s.supply.record v) (warnVolts s.cal.profile.warnLevel) hlow hhigh hnone hnone'
  refine ⟨a, b, c, d, ?_, ?_, ?_⟩
  · change ((s.supply.record v).judge _ v).minSince ≤ ((s.supply.record v).judge _ v).lastVsys
    rw [e, f]
    exact Nat.min_le_right _ _
  · change ((s.supply.record v).judge _ v).lastVsys ≤ 400
    rw [f]
    exact hv
  · exact (Nat.min_le_right _ _).trans hv

theorem CycleLaws.supplyLow {s : State} (h : CycleLaws s) : CycleLaws s.supplyLow := by
  unfold State.supplyLow
  split
  · obtain ⟨hacc, htracker, hsupply⟩ := h
    exact CycleLaws.abortCapture ⟨hacc.of_abandoned rfl, htracker, hsupply⟩
  · exact h.abortCapture

theorem CycleLaws.supplyMeasurement {s : State} (h : CycleLaws s) (v : Nat) :
    ∃ t, execSupplyMeasurement v s = .next t ∧ CycleLaws t := by
  obtain ⟨hacc, htracker, hsupply⟩ := h
  have measured : CycleLaws (s.measured (min v 400)) := ⟨hacc, htracker, hsupply.measured (Nat.min_le_right v 400)⟩
  have raised : CycleLaws ((s.measured (min v 400)).raise .supply) := measured.kept (by simp [cycleKept])
  unfold execSupplyMeasurement
  split
  · refine ⟨_, rfl, ?_⟩
    unfold State.supplyChanged
    split
    · exact measured
    · split
      · exact raised.supplyLow
      · exact raised
  · exact ⟨s, rfl, hacc, htracker, hsupply⟩

theorem CycleLaws.clockTick {s : State} (h : CycleLaws s) : ∃ t, execClockTick s = .next t ∧ CycleLaws t := by
  obtain ⟨hacc, htracker, hsupply⟩ := h
  unfold execClockTick
  split
  · refine ⟨_, rfl, hacc, ?_, hsupply⟩
    obtain ⟨hpending, hcheck, hidle, hmodes, htimer, hindex⟩ := htracker
    unfold TrackerLaw Tracker.tick
    split
    · exact ⟨hpending, hcheck, hidle, hmodes, htimer, hindex⟩
    · exact ⟨hpending, hcheck, hidle, hmodes, Nat.min_le_right _ _, hindex⟩
  · exact ⟨_, rfl, hacc, htracker, hsupply⟩
  · exact ⟨_, rfl, hacc, htracker, hsupply⟩
  · exact ⟨_, rfl, hacc, htracker, hsupply⟩

/-! ### The commands -/

theorem CycleLaws.reset {c : Instr} {s : State} (h : CycleLaws s) (hc : c.resets = true) :
    ∃ t, exec c s = .next t ∧ CycleLaws t := by
  cases c <;> simp only [Instr.resets, Bool.false_eq_true] at hc
  case powerOnReset => exact ⟨_, rfl, .of_reset rfl rfl rfl rfl⟩
  case powerCollapse => exact ⟨_, rfl, .of_reset rfl rfl rfl rfl⟩
  case pinReset =>
    simp only [exec, execPinReset]
    split <;> exact ⟨_, rfl, h⟩
  case pinResetRelease =>
    simp only [exec, execPinResetRelease]
    split
    · exact ⟨_, rfl, .of_reset rfl rfl rfl rfl⟩
    · exact ⟨_, rfl, .of_reset rfl rfl rfl rfl⟩
    · exact ⟨_, rfl, h⟩
    · exact ⟨_, rfl, h⟩

/-- The start of a sweep and its transactions keep the laws. -/
theorem CycleLaws.transaction {c : Instr} {s : State} (h : CycleLaws s) (hc : c.writesLink = true)
    (hq : c.request = none) : ∃ t, exec c s = .next t ∧ CycleLaws t := by
  cases c <;> simp only [Instr.writesLink, Instr.endsSweep, Instr.request, Bool.or_false, Bool.false_eq_true,
    reduceCtorEq] at hc hq
  case sweepStart =>
    by_cases hs : s.power = .running ∧ s.link.sweep = none
    · refine ⟨_, exec_sweepStart hs.1 hs.2, ?_⟩
      rw [(s.rebind_rebound s.cal.profile.binding).frame]
      exact h
    · exact ⟨s, if_neg hs, h⟩
  case readValue role reply =>
    by_cases ho : s.power = .running ∧ ∃ sw ∈ s.link.sweep,
        sw.toRead.head? = some role ∧ (s.link.roles.get role).bound.isSome = true
    · obtain ⟨hp, sw, hs, hhead, hbound⟩ := ho
      obtain ⟨rest, hr⟩ := List.head?_eq_some_iff.1 hhead
      obtain ⟨addr, hb⟩ := Option.isSome_iff_exists.1 hbound
      refine ⟨_, exec_readValue hp hs hr hb reply, ?_⟩
      rw [(s.readEnds_ended sw rest role addr reply).frame]
      exact h
    · exact ⟨s, exec_readValue_idle ho reply, h⟩
  case probe reply =>
    by_cases ho : s.power = .running ∧ ∃ sw ∈ s.link.sweep, sw.toRead = [] ∧ sw.slot = none
    · obtain ⟨hp, sw, hs, hr, hi⟩ := ho
      refine ⟨_, exec_probe hp hs hr hi reply, ?_⟩
      have probed : CycleLaws (s.probed (reply.filter fun a => a.received s.link.probePtr)) := by
        rw [State.probed_eq]
        exact h
      rw [State.probeEnds_eq]
      split
      · exact probed
      · exact probed.endSweep sw
    · exact ⟨s, exec_probe_idle ho reply, h⟩
  case nodeRead reply =>
    by_cases ho : ∃ sw i a, s.power = .running ∧ s.serving = some (sw, i, a) ∧ a.dir = .read
    · obtain ⟨sw, i, a, hp, hv, hd⟩ := ho
      exact ⟨_, exec_nodeRead hp hv hd reply, h.serveEnds ..⟩
    · exact ⟨s, exec_nodeRead_idle (fun sw i a hp hv hd => ho ⟨sw, i, a, hp, hv, hd⟩) reply, h⟩
  case nodeWrite reply =>
    by_cases ho : ∃ sw i a, s.power = .running ∧ s.serving = some (sw, i, a) ∧ a.dir = .write
    · obtain ⟨sw, i, a, hp, hv, hd⟩ := ho
      exact ⟨_, exec_nodeWrite hp hv hd reply, h.serveEnds ..⟩
    · exact ⟨s, exec_nodeWrite_idle (fun sw i a hp hv hd => ho ⟨sw, i, a, hp, hv, hd⟩) reply, h⟩

/-- The grant of an outcome or a tag event keeps the laws. -/
theorem CycleLaws.itemGrant {c : Instr} {s : State} (h : CycleLaws s) (hc : c.grantsItem = true) :
    ∃ t, exec c s = .next t ∧ CycleLaws t := by
  cases c <;> simp only [Instr.grantsItem, Bool.false_eq_true] at hc
  case tagEvent =>
    refine h.grantItem fun i f hf u hu => ?_
    cases i <;> cases hf
    exact hu.steady (u.tagEvent_steady _)
  case truckDump =>
    refine h.grantItem fun i f hf u hu => ?_
    cases i <;> cases hf
    exact hu.truckDump _ _ _ _
  case residue =>
    refine h.grantItem fun i f hf u hu => ?_
    cases i <;> cases hf
    exact hu.kept (by simp [cycleKept])
  case zero =>
    refine h.grantItem fun i f hf u hu => ?_
    cases i <;> cases hf
    dsimp only
    split <;> exact hu.kept (by simp [cycleKept])
  all_goals
    refine h.grantItem fun i f hf u hu => ?_
    cases i <;> cases hf
    exact hu.kept (by simp [cycleKept])

/-- The grant of a request keeps the laws. -/
theorem CycleLaws.requestGrant {c : Instr} {s : State} (h : CycleLaws s) (hc : c.request ≠ none) :
    ∃ t, exec c s = .next t ∧ CycleLaws t := by
  cases c <;> simp only [Instr.request, ne_eq, not_true_eq_false] at hc
  case viewLive => exact h.grantSteady _ _ _ (viewWork_steady _)
  case viewBay => exact h.grantSteady _ _ _ viewBayWork_steady
  case viewTruck => exact h.grantSteady _ _ _ viewTruckWork_steady
  case viewMaterial => exact h.grantSteady _ _ _ (viewWork_steady _)
  case viewCounters => exact h.grantSteady _ _ _ (viewWork_steady _)
  case nextRecord => exact h.grantRequest _ _ _ fun _ u hu => hu.kept (.refl u)
  case viewNodes => exact h.grantRequest _ _ _ fun _ u hu => hu.kept (.refl u)
  case viewCurve => exact h.grantSteady _ _ _ viewCurveWork_steady
  case viewProfile => exact h.grantSteady _ _ _ (viewWork_steady _)
  case viewPort => exact h.grantRequest _ _ _ fun _ u hu => hu.kept (.refl u)
  case viewPart => exact h.grantSteady _ _ _ (viewWork_steady _)
  case collectNotices => exact h.grantRequest _ _ _ fun _ u hu => hu.kept (.refl u)
  case setNotices => exact h.grantSteady _ _ _ (setNoticesWork_steady _)
  case takeSnapshot => exact h.grantSteady _ _ _ (viewWork_steady _)
  case selectBay => exact h.grantSteady _ _ _ selectBayWork_steady
  case assignTruck => exact h.grantSteady _ _ _ assignTruckWork_steady
  case closeLoad => exact h.grantSteady _ _ _ (closeLoadWork_steady _)
  case setLoadTarget => exact h.grantSteady _ _ _ setLoadTargetWork_steady
  case zeroBucket => exact h.grantRequest _ _ _ fun payload u hu => hu.zeroBucketWork payload
  case cancelZero => exact h.grantRequest _ _ _ fun payload u hu => hu.cancelZeroWork payload
  case endShift p => exact h.grantRequest _ _ _ fun payload u hu => hu.endShiftWork p payload
  case restoreSnapshot => exact h.grantRequest _ _ _ fun payload u hu => hu.restoreSnapshotWork payload
  case writeTruck => exact h.grantSteady _ _ _ writeTruckWork_steady
  case dropTruck => exact h.grantSteady _ _ _ dropTruckWork_steady
  case writeMaterial => exact h.grantSteady _ _ _ writeMaterialWork_steady
  case setTime => exact h.grantRequest _ _ _ fun _ u hu => hu.kept (.refl u)
  case nodeAccess => exact h.grantSteady _ _ _ nodeAccessWork_steady
  case nodeResult => exact h.grantSteady _ _ _ nodeResultWork_steady
  case stagePiece => exact h.grantSteady _ _ _ stagePieceWork_steady
  case stageFill => exact h.grantRequest _ _ _ fun _ u hu => hu.kept (.refl u)
  case startCapture => exact h.grantRequest _ _ _ fun payload u hu => hu.startCaptureWork payload
  case abortCapture => exact h.grantRequest _ _ _ fun payload u hu => hu.abortCaptureWork payload
  case installCurve => exact h.grantSteady _ _ _ installCurveWork_steady
  case setProfile => exact h.grantSteady _ _ _ setProfileWork_steady

/-- Every command keeps the laws. -/
theorem CycleLaws.exec {s : State} (h : CycleLaws s) (c : Instr) : ∃ t, exec c s = .next t ∧ CycleLaws t := by
  by_cases hr : c.resets = true
  · exact h.reset hr
  by_cases hq : c.request = none
  case neg => exact h.requestGrant hq
  by_cases hi : c.grantsItem = true
  · exact h.itemGrant hi
  by_cases hl : c.writesLink = true
  · exact h.transaction hl hq
  cases c <;> simp only [Instr.resets, Instr.request, Instr.grantsItem, Instr.writesLink, Instr.endsSweep,
    reduceCtorEq, not_true_eq_false, Bool.or_true, Bool.true_or] at hr hq hi hl <;>
    simp only [Machine.exec]
  case supplyMeasurement v => exact h.supplyMeasurement v
  case clockTick => exact h.clockTick
  case cabCsNFall => exact ⟨_, rfl, h⟩
  case cabCsNRise => unfold execCabCsNRise; split <;> exact ⟨_, rfl, h⟩
  case frameArrival => unfold execFrameArrival; split <;> exact ⟨_, rfl, h⟩
  case frameDiscard => unfold execFrameDiscard; split <;> exact ⟨_, rfl, h⟩
  case frameGapTimeout => unfold execFrameGapTimeout; split <;> exact ⟨_, rfl, h⟩
  case paceTimerExpiry => unfold execPaceTimerExpiry; split <;> exact ⟨_, rfl, h⟩
  case syncByteReceived => unfold execSyncByteReceived; split <;> (try split) <;> exact ⟨_, rfl, h⟩
  case answerSent => unfold execAnswerSent; dsimp only; (repeat' split) <;> exact ⟨_, rfl, h⟩

/-- Settles O59: the tracker's and the accumulator's laws are kept change by change of a record, the supply's through
the table of R162, and no other command but a reset, a truck dump, a request of the lift's modes, END_SHIFT, a restore
and the clock touches what they speak of. -/
theorem stepsKeepTracker : Obligations.StepsKeepTracker := by
  intro s t hacc htracker hsupply hs
  exact step_keeps (P := CycleLaws) (fun _ _ hu => hu) (fun c _ hu => hu.exec c) ⟨hacc, htracker, hsupply⟩ hs

end Sys2Proof.Machine
end

section
/-! Dumps and forced returns to IDLE (R23, R33 to R36, R45): what each clears and which outcome it hands. -/

namespace Sys2Proof.Machine

/-! ### The tracker after a dump or a forced IDLE -/

theorem State.forcedIdle_tracker (s : State) : s.forcedIdle.tracker = { s.tracker with
    cycle := .idle, prevBoom := none, held := none, overload := ⟨false, false⟩, residuePending := false,
    returnOf := none } := by
  unfold State.forcedIdle
  rw [State.discardCapture_eq]
  dsimp only
  split <;> rfl

/-- A dump from CARRY at or above the truck angle, with a held result, is a truck dump (R33, R35). -/
abbrev isTruckDump (s : State) (r : SweepRecord) (h : WindowResult) : Prop :=
  s.tracker.held = some h ∧ s.tracker.cycle = .carry ∧ s.cal.profile.truckAngle ≤ r.boom.number

theorem State.dump_truck {s : State} {r : SweepRecord} {h : WindowResult} (ht : isTruckDump s r h) :
    (s.dump r).tracker = { s.tracker with
        cycle := .ret, held := none, overload := ⟨false, false⟩, dumpNo := s.tracker.dumpNo + 1,
        returnOf := some s.tracker.dumpNo } ∧
      CycleChange s (s.dump r) .ret
        [.truckDump h s.tracker.timer (bayChoice s.cal.profile r) s.tracker.dumpNo] := by
  obtain ⟨hheld, hcarry⟩ := ht
  have dumped : s.dump r = ((s.discardCapture.emptyAcc).modifyTracker fun t =>
      { t.clearOverload with
        cycle := .ret, held := none, dumpNo := t.dumpNo + 1, returnOf := some t.dumpNo }).hand
      (.truckDump h s.tracker.timer (bayChoice s.cal.profile r) s.tracker.dumpNo) := by
    unfold State.dump
    rw [hheld]
    exact if_pos hcarry
  rw [dumped]
  exact ⟨by rw [State.discardCapture_eq]; rfl, .handed (.discard (.quiet (by decide) rfl rfl rfl rfl rfl))⟩

/-- Every other dump in LIFT, WEIGH or CARRY is a pile dump (R33, R36). -/
theorem State.dump_pile {s : State} {r : SweepRecord} (hp : ∀ h, ¬isTruckDump s r h) :
    (s.dump r).tracker = { s.tracker with
        cycle := .ret, held := none, overload := ⟨false, false⟩, returnOf := none } ∧
      CycleChange s (s.dump r) .ret [.pileDump s.tracker.timer] := by
  have dumped : s.dump r = ((s.discardCapture.emptyAcc).modifyTracker fun t =>
      { t.clearOverload with cycle := .ret, held := none, returnOf := none }).hand (.pileDump s.tracker.timer) := by
    unfold State.dump
    cases hheld : s.tracker.held with
    | none => rfl
    | some h => exact if_neg fun hcarry => hp h ⟨hheld, hcarry⟩
  rw [dumped]
  exact ⟨by rw [State.discardCapture_eq]; rfl, .handed (.discard (.quiet (by decide) rfl rfl rfl rfl rfl))⟩

/-- The bay choice of R34, in the statements' words. -/
theorem bayChoice_eq (f : Profile) (r : SweepRecord) : bayChoice f r =
    if f.mode = .double ∧ (r.steer.state = .ok ∨ r.steer.state = .hold) then
      if (f.deadband : Int) ≤ r.steer.number then .side .left
      else if r.steer.number ≤ -(f.deadband : Int) then .side .right else .active
    else .active := by
  simp [bayChoice, RoleReading.usable]

/-! ### What a dump or a forced IDLE clears -/

/-- What a dump and a forced IDLE do to the held result, the overload-risk flags, the accumulator and an armed capture's
bins, and what both leave of the tracker (R23, R33, R45). -/
abbrev dumpClears (s t : State) (r : SweepRecord) : Prop :=
  t.tracker.held = none ∧ t.tracker.overload = ⟨false, false⟩ ∧ t.weigh.acc = noSamples ∧
    t.tracker.timer = s.tracker.timer ∧ t.tracker.dumpRef = s.tracker.dumpRef ∧
    t.tracker.zeroPending = s.tracker.zeroPending ∧ t.tracker.lastZero = s.tracker.lastZero ∧
    t.tracker.capture = (if aborts s r then none else s.tracker.capture) ∧
    t.weigh.bins = if s.tracker.capture.isSome then noForces else s.weigh.bins

section
variable {s t v : State} {r : SweepRecord} {all outcomes : List Item} {c : CycleState}

/-- A change to a state in which no sweep is weighed or captured leaves the weighing unit as the change does. -/
theorem RecordWeighed.undirected (h : RecordWeighed s t r v) (hc : (v.changeCycle r).tracker.cycle = c)
    (hw : c ≠ .weigh) (hk : c ≠ .check) :
    t.weigh.acc = (v.changeCycle r).weigh.acc ∧
      (c ≠ .lift → ¬aborts s r → t.weigh.bins = (v.changeCycle r).weigh.bins) := by
  have cycle : (v.takeSteps r).tracker.cycle = c := by rw [State.takeSteps_tracker]; exact hc
  have steps := v.takeSteps_weigh r
  have change := v.changeCycle_weigh r
  dsimp only at steps
  rw [cycle, if_neg (show ¬isWeighingSweep c _ by simp [isWeighingSweep, hw, hk])] at steps
  rw [hc] at change
  refine ⟨by rw [h.acc, steps, change], fun hl ha => ?_⟩
  rw [if_neg (show ¬isCaptureSweep c _ by simp [isCaptureSweep, hl, hw])] at steps
  rw [(h.bins ha).1, steps, change]

/-- What a change clears that empties the accumulator and an armed capture's bins, ends in IDLE or RETURN, and leaves of
the tracker what a dump does. -/
theorem RecordTaken.clears (h : RecordTaken s t r all v) (hw : RecordWeighed s t r v)
    (change : CycleChange v (v.changeCycle r) c outcomes) (hc : c = .idle ∨ c = .ret)
    (weigh : (v.changeCycle r).weigh = { v.weigh with
      acc := noSamples, bins := if v.tracker.capture.isSome then noForces else v.weigh.bins })
    {p : Option Int} {q : Bool} {n : Nat} {o : Option Nat}
    (tracker : (v.changeCycle r).tracker = { v.tracker with
      cycle := c, prevBoom := p, held := none, overload := ⟨false, false⟩, residuePending := q, dumpNo := n,
      returnOf := o }) :
    dumpClears s t r ∧ t.tracker.residuePending = q ∧ t.tracker.dumpNo = n ∧ t.tracker.returnOf = o := by
  obtain ⟨x, rfl⟩ : ∃ x, v = s.withParts x := ⟨v, h.parts⟩
  obtain ⟨mode, ht⟩ := h.tracker
  obtain ⟨_, capture, aborted⟩ := h.changed change
  obtain ⟨acc, bins⟩ := hw.undirected change.cycle (by rcases hc with rfl | rfl <;> decide)
    (by rcases hc with rfl | rfl <;> decide)
  rw [weigh] at acc bins
  rw [tracker] at ht
  refine ⟨⟨by rw [ht], by rw [ht], acc, by rw [ht]; rfl, by rw [ht]; rfl, by rw [ht]; rfl, by rw [ht]; rfl, capture,
    ?_⟩, by rw [ht], by rw [ht], by rw [ht]⟩
  by_cases ha : aborts s r
  · rw [aborted ha, if_pos ha.1]
  · have found := (hw.bins ha).2
    have emptied := bins (by rcases hc with rfl | rfl <;> decide) ha
    dsimp only at emptied
    rwa [h.unaborted ha, found] at emptied

end

/-! ### The statement -/

/-- Settles O17: a forced IDLE and the two kinds of dump each make one change of the cycle state, whose outcome
reaches the arbiter and which clears the same. -/
theorem dumpHandsItsOutcome : Obligations.DumpHandsItsOutcome := by
  intro c s sw hs r f cy choice
  obtain ⟨t, all, v, hexec, taken, ht, weighed, _⟩ := hs.weighed
  obtain ⟨x, rfl⟩ : ∃ x, v = s.withParts x := ⟨v, taken.parts⟩
  set v := s.withParts x
  refine ⟨t, hexec, ?_⟩
  intro cleared
  refine ⟨fun hu hc => ?forced, fun hu low hc => ?dump⟩
  case forced =>
    have change : v.changeCycle r = v.forcedIdle := (State.changeCycle_of_not_usable hu).trans (if_neg hc)
    have gated := v.changeCycle_gated hu
    obtain ⟨clears, residue, number, ret⟩ := taken.clears weighed gated (.inl rfl)
      (by rw [change]; exact v.forcedIdle_weigh) (by rw [change]; exact v.forcedIdle_tracker)
    exact ⟨clears, (taken.moved ht gated).2, residue, taken.prevBoom_forced hu hc, number, ret⟩
  case dump =>
    have unchecked : cy ≠ .check := by rcases hc with h | h | h <;> simp [cy, h]
    have change : v.changeCycle r = v.dump r :=
      (State.changeCycle_of_dump (s := v) hu ⟨low, .inl hc⟩).trans (if_neg unchecked)
    have weigh := (congrArg State.weigh change).trans (v.dump_weigh r)
    have boom : t.tracker.prevBoom = r.boom.value := (taken.prevBoom_recorded (.inl hu)).trans (if_pos hu.1)
    by_cases truck : ∃ h, isTruckDump v r h
    case pos =>
      obtain ⟨h, dumping⟩ := truck
      obtain ⟨tracker, dumped⟩ := State.dump_truck dumping
      rw [← change] at tracker dumped
      obtain ⟨clears, residue, number, ret⟩ := taken.clears weighed dumped (.inr rfl) weigh tracker
      have handed := (taken.moved ht dumped).2
      rw [bayChoice_eq] at handed
      obtain ⟨hheld, hcarry, hangle⟩ := dumping
      refine ⟨clears, residue, boom, fun h' hh _ _ => ?_, fun hp => ?_⟩
      · obtain rfl : h = h' := Option.some.inj (hheld.symm.trans hh)
        exact ⟨handed, number, ret⟩
      · rcases hp with hp | hp | hp
        · exact nomatch hheld.symm.trans hp
        · exact absurd hcarry hp
        · exact absurd hangle (Int.not_le.2 hp)
    case neg =>
      obtain ⟨tracker, dumped⟩ := State.dump_pile fun h dumping => truck ⟨h, dumping⟩
      rw [← change] at tracker dumped
      obtain ⟨clears, residue, number, ret⟩ := taken.clears weighed dumped (.inr rfl) weigh tracker
      exact ⟨clears, residue, boom, fun h hheld hcarry hangle => absurd ⟨h, hheld, hcarry, hangle⟩ truck,
        fun _ => ⟨(taken.moved ht dumped).2, number, ret⟩⟩

end Sys2Proof.Machine
end

section
/-! The end of a window at the upper angle (R30, R32, R42, R62 to R65): the result it forms, its overload risks, or
the zero result of a zeroing lift. -/

namespace Sys2Proof.Machine

/-! ### The overload check (R32) -/

/-- A weighed net would take the bay past its maximum (R32). -/
def atRisk (s : State) (net : Nat) (d : Side) : Bool :=
  decide (((s.bay d).state = .ready ∨ (s.bay d).state = .loading ∨ (s.bay d).state = .topped) ∧
    (s.bay d).max < (s.bay d).total + net)

/-- The overload check of a bay: at risk it sets the bay's flag and raises OVERLOAD naming it. -/
theorem State.overloadCheck_eq (s : State) (net : Nat) (d : Side) : s.overloadCheck net d =
    if atRisk s net d then
      (s.modifyTracker fun t => { t with overload := t.overload.modify d fun _ => true }).raise (.overload d)
    else s := by
  unfold State.overloadCheck atRisk
  cases hb : (s.bay d).state <;> simp [hb]

theorem State.overloadCheck_overload (s : State) (net : Nat) (d e : Side) :
    (s.overloadCheck net d).tracker.overload.get e =
      (s.tracker.overload.get e || (decide (e = d) && atRisk s net d)) := by
  rw [State.overloadCheck_eq]
  by_cases h : atRisk s net d = true
  · rw [if_pos h]
    cases d <;> cases e <;> simp [Sides.modify, Sides.get, h]
  · rw [if_neg h]
    simp [h]

/-- What the overload check of one bay counts, and which bays OVERLOAD names after it. -/
theorem State.overloadCheck_pacer (s : State) (net : Nat) (d : Side) (p : Port) :
    ((s.overloadCheck net d).port p).pacer =
      if atRisk s net d then (s.port p).pacer.raise (.overload d) else (s.port p).pacer := by
  rw [State.overloadCheck_eq]
  split
  · rw [State.pacer_raise, if_neg (by simp)]
    rfl
  · rfl

/-- Both overload checks: each bay at risk is flagged, counted and named, and no other (R32). -/
theorem State.overloadChecks_names (s : State) (net : Nat) :
    let t := (s.overloadCheck net .left).overloadCheck net .right
    (∀ d, t.tracker.overload.get d = (s.tracker.overload.get d || atRisk s net d)) ∧
      namesBays s t .overload (fun pc => pc.overloadBays) (atRisk s net) := by
  have beside : (s.overloadCheck net .left).bay .right = s.bay .right := State.bay_of_bays (by simp) _
  have right : atRisk (s.overloadCheck net .left) net .right = atRisk s net .right := by
    unfold atRisk
    rw [beside]
  refine ⟨fun d => ?_, fun p => ?_⟩
  · rw [State.overloadCheck_overload, State.overloadCheck_overload, right]
    cases d <;> simp
  · simp only [State.overloadCheck_pacer, right]
    refine ⟨?_, fun d => ?_⟩
    · cases atRisk s net .left <;> cases atRisk s net .right <;> simp [Pacer.count_raise, Notice.kind]
      omega
    · cases d <;> cases atRisk s net .left <;> cases atRisk s net .right <;>
        simp [Pacer.overloadBays_raise, Sides.modify, Sides.get]

/-- NODE, which a served slot has counted, is no OVERLOAD (R182). -/
theorem namesBays.of_transaction {s t u v : State} {risk : Side → Bool}
    (h : namesBays v u .overload (fun pc => pc.overloadBays) risk)
    (hv : v.ports = s.ports ∨ v.ports = (s.raise .node).ports) (ht : t.ports = u.ports) :
    namesBays s t .overload (fun pc => pc.overloadBays) risk := by
  have same : ∀ p, (v.port p).pacer.count .overload = (s.port p).pacer.count .overload ∧
      (v.port p).pacer.overloadBays = (s.port p).pacer.overloadBays := by
    intro p
    rcases hv with hv | hv <;> rw [State.port_of_ports hv p]
    · exact ⟨rfl, rfl⟩
    · rw [State.pacer_raise]
      split
      · exact ⟨rfl, rfl⟩
      · rw [Pacer.count_raise, Pacer.overloadBays_raise]
        exact ⟨rfl, rfl⟩
  intro p
  have names := h p
  dsimp only at names
  rw [(same p).1, (same p).2] at names
  rw [State.port_of_ports ht p]
  exact names

/-! ### The window result (R30, R62 to R65) -/

/-- The net of a window: that of its mean when it is weighable, and 0 otherwise (R62, R65). -/
abbrev windowNet (s : State) : Nat := if weighable s.weigh.acc s.cal.profile then netMass s s.weigh.acc else 0

/-- The window result of the accumulator, in the statements' words. -/
abbrev freshResult (s : State) : WindowResult :=
  ⟨windowNet s, fillOf s.cal.profile.volume
      s.materials[if (s.bay s.bays.active).state = .empty then s.cal.profile.defMaterial
        else (s.bay s.bays.active).material].density (windowNet s),
    ⟨!decide (weighable s.weigh.acc s.cal.profile),
      decide (weighable s.weigh.acc s.cal.profile ∧
        (s.cal.profile.spreadLimit : Int) < s.weigh.acc.max.getD 0 - s.weigh.acc.min.getD 0),
      s.weigh.acc.sat, s.weigh.acc.nopitch, s.weigh.acc.slow, false, s.cal.generation == 0, false, false⟩⟩

theorem State.windowResult_eq (s : State) : s.windowResult = freshResult s := by
  have weighed := Accumulator.weighable_iff s.weigh.acc s.cal.profile
  unfold State.windowResult freshResult windowNet
  by_cases h : weighable s.weigh.acc s.cal.profile
  · rw [if_pos (weighed.2 h), if_pos h, decide_eq_true h, decide_eq_decide.2 (and_iff_right h)]
    rfl
  · rw [if_neg (mt weighed.1 h), if_neg h, decide_eq_false h, decide_eq_false (mt And.left h)]
    rfl

/-- What the end of a weighing sets, counts and names of overload risks (R32). -/
theorem State.enterCarry_names (s : State) :
    let risk : Side → Bool := fun d => decide (weighable s.weigh.acc s.cal.profile) && atRisk s (windowNet s) d
    (∀ d, s.enterCarry.tracker.overload.get d = (s.tracker.overload.get d || risk d)) ∧
      namesBays s s.enterCarry .overload (fun pc => pc.overloadBays) risk := by
  unfold State.enterCarry
  rw [State.windowResult_eq]
  dsimp only
  by_cases h : weighable s.weigh.acc s.cal.profile
  · rw [if_neg (by simp [h]), decide_eq_true h]
    exact State.overloadChecks_names
      (s.modifyTracker fun t => { t with cycle := .carry, held := some (heldAfter t.held (freshResult s)) })
      (windowNet s)
  · rw [if_pos (by simp [h]), decide_eq_false h]
    simp [namesBays, State.port]

/-- A zeroing lift ends: nothing held, and zero pending (R42). -/
abbrev zeroing (s : State) : Prop := s.tracker.zeroPending = true ∧ s.tracker.held = none

theorem State.endWindow_weighing {s : State} (h : ¬zeroing s) : s.endWindow = s.enterCarry :=
  if_neg (by simpa [zeroing] using h)

/-- The zero result of a window, in the statements' words (R42, R67). -/
abbrev freshZero (a : Accumulator) : ZeroResult :=
  ⟨meanMass a, decide (-1500 ≤ meanMass a ∧ meanMass a ≤ 1500)⟩

theorem State.endWindow_zeroed {s : State} (h : zeroing s) (hw : weighable s.weigh.acc s.cal.profile) :
    s.endWindow = (s.modifyTracker fun t => { t with
      cycle := .ret, zeroPending := false, lastZero := some (freshZero s.weigh.acc), returnOf := none }).hand
        (.zero (freshZero s.weigh.acc)) := by
  have zero : s.weigh.acc.zeroResult = freshZero s.weigh.acc := by
    unfold Accumulator.zeroResult freshZero
    rw [Bool.decide_and]
    rfl
  unfold State.endWindow State.endZeroing
  rw [if_pos (by simpa [zeroing] using h), if_pos ((Accumulator.weighable_iff _ _).2 hw), zero]

theorem State.endWindow_unzeroed {s : State} (h : zeroing s) (hw : ¬weighable s.weigh.acc s.cal.profile) :
    s.endWindow = s.modifyTracker fun t => { t with cycle := .carry } := by
  unfold State.endWindow State.endZeroing
  rw [if_pos (by simpa [zeroing] using h), if_neg (mt (Accumulator.weighable_iff _ _).1 hw)]

/-! ### The statement -/

/-- No bay is named when none is at risk. -/
theorem namesBays.none {s t : State} {k : NoticeKind} {set : Pacer → Sides Bool} (h : t.ports = s.ports) :
    namesBays s t k set fun _ => false := by
  intro p
  rw [State.port_of_ports h p]
  simp

/-- Settles O18: the record leaves WEIGH by the end of a window, which is the end of a weighing or, with zero pending
and nothing held, of a zeroing lift. -/
theorem windowEndsInResult : Obligations.WindowEndsInResult := by
  intro c s sw hs r f a m net fresh zeroes risk hc hk hu hb hl hh
  obtain ⟨t, all, v, hexec, taken, ht, weighed, noded⟩ := hs.weighed
  have unaborted : ¬aborts s r := fun ⟨armed, _⟩ => by simp [hk] at armed
  have disarmed : v.tracker.capture = none := (taken.unaborted unaborted).trans hk
  obtain ⟨x, rfl⟩ : ∃ x, v = s.withParts x := ⟨v, taken.parts⟩
  set v := s.withParts x
  have undumped : ¬dumpSeen v r := fun ⟨low, _⟩ => Int.not_lt.2 low hb
  have change : v.changeCycle r = v.endWindow :=
    (State.changeCycle_of_moves hu undumped (by simp [disarmed])).trans
      (v.boomTransition_weigh_above hc hl hh (by simp [disarmed]))
  obtain ⟨outcomes, ended⟩ := v.endWindow_change
  rw [← change] at ended
  have acc : t.weigh.acc = a := by
    obtain ⟨acc, _⟩ := weighed.undirected ended.cycle (by split <;> decide) (by split <;> decide)
    rw [acc, change, State.endWindow_weigh]
    rfl
  have names : ∀ {risks : Side → Bool}, namesBays v v.endWindow .overload (fun pc => pc.overloadBays) risks →
      namesBays s t .overload (fun pc => pc.overloadBays) risks :=
    fun h => h.of_transaction noded (by rw [weighed.ports, change])
  have hands : ∀ {c outcomes}, CycleChange v v.endWindow c outcomes →
      t.tracker.cycle = c ∧ handsItems s t sw outcomes := by
    intro c outcomes h
    obtain ⟨cycle, handed⟩ := taken.moved ht (change ▸ h)
    exact ⟨cycle, handed.1 unaborted⟩
  obtain ⟨mode, tracker⟩ := taken.tracker
  rw [change] at tracker
  refine ⟨t, hexec, acc, weighed.trim, ?_⟩
  by_cases hz : zeroing v
  case pos =>
    have safe : risk = fun _ => false := funext fun d => decide_eq_false fun h => h.1 hz
    rw [safe]
    by_cases hw : weighable a f
    · have zeroed := v.endWindow_zeroed hz hw
      have change : CycleChange v v.endWindow .ret [.zero (freshZero a)] := by
        rw [zeroed]
        exact .handed (.quiet (by decide) rfl rfl rfl rfl rfl)
      obtain ⟨cycle, handed⟩ := hands change
      rw [zeroed] at tracker
      exact ⟨fun d => by rw [tracker, Bool.or_false]; rfl, names (.none (by rw [zeroed]; rfl)),
        fun _ _ => ⟨cycle, by rw [tracker]; rfl, by rw [tracker]; rfl, handed⟩, fun _ h => absurd hw h,
        fun h => absurd hz h⟩
    · have unzeroed := v.endWindow_unzeroed hz hw
      have change : CycleChange v v.endWindow .carry [] := by
        rw [unzeroed]
        exact .quiet (by decide) rfl rfl rfl rfl rfl
      obtain ⟨cycle, handed⟩ := hands change
      rw [unzeroed] at tracker
      obtain ⟨pending, nothing⟩ := hz
      exact ⟨fun d => by rw [tracker, Bool.or_false]; rfl, names (.none (by rw [unzeroed]; rfl)),
        fun _ h => absurd h hw,
        fun _ _ => ⟨cycle, by rw [tracker]; exact nothing, by rw [tracker]; exact pending, by rw [tracker]; rfl,
          handed⟩,
        fun h => absurd ⟨pending, nothing⟩ h⟩
  case neg =>
    have weighing := v.endWindow_weighing hz
    obtain ⟨cycle, handed⟩ := hands (weighing ▸ v.enterCarry_change)
    obtain ⟨flagged, named⟩ := v.enterCarry_names
    have risks : risk = fun d => decide (weighable a f) && atRisk v (windowNet v) d := by
      funext d
      unfold atRisk
      rw [← Bool.decide_and]
      exact decide_eq_decide.2 (and_iff_right hz)
    rw [weighing, v.enterCarry_tracker, v.windowResult_eq] at tracker
    have held : t.tracker.held = some (heldAfter s.tracker.held fresh) := by rw [tracker]; rfl
    refine ⟨fun d => ?_, names ?_, fun h => absurd h hz, fun h => absurd h hz, fun _ => ⟨cycle, handed,
      by rw [tracker]; rfl, by rw [tracker]; rfl, fun hn => ?_, fun h hh hw => ?_, fun h hh hw => ?_⟩⟩
    · rw [risks, tracker]
      exact flagged d
    · rw [risks, weighing]
      exact named
    · rw [held, hn]
      rfl
    · rw [held, hh]
      simp [heldAfter, fresh, hw, WindowResult.reweighed]
    · rw [held, hh]
      simp [heldAfter, fresh, hw, WindowResult.reweighed]

end Sys2Proof.Machine
end

section
/-! The arithmetic of a sample (R49, R50, R56 to R60), and what a weighing sweep and a capture sweep add to the
accumulator and to the bins (R29, R53, R54, R61, R81). -/

namespace Sys2Proof.Machine

/-! ### Quotients and means (R49, R50) -/

theorem floorDiv_spec {a b : Int} (hb : 0 < b) : floorDiv a b * b ≤ a ∧ a < (floorDiv a b + 1) * b :=
  ⟨Int.ediv_mul_le a hb.ne', Int.lt_ediv_add_one_mul_self a hb⟩

/-- A quotient is what rounding down says of it. -/
theorem floorDiv_eq {a b q : Int} (hb : 0 < b) (hl : q * b ≤ a) (hu : a < (q + 1) * b) : floorDiv a b = q :=
  le_antisymm (Int.lt_add_one_iff.1 ((Int.ediv_lt_iff_lt_mul hb).2 hu)) ((Int.le_ediv_iff_mul_le hb).2 hl)

/-- The mean lies between the bounds of its samples (R50). -/
theorem meanOf_within {sum lo hi : Int} {count : Nat} (hc : 0 < count) (hl : lo * count ≤ sum)
    (hu : sum ≤ hi * count) : lo ≤ meanOf sum count ∧ meanOf sum count ≤ hi := by
  have positive : (0 : Int) < 2 * count := by omega
  constructor
  · refine (Int.le_ediv_iff_mul_le positive).2 ?_
    linarith
  · refine Int.lt_add_one_iff.1 ((Int.ediv_lt_iff_lt_mul positive).2 ?_)
    linarith

/-! ### The curve (R57 to R59) -/

theorem effectiveAngle_spec (f : Profile) (r : SweepRecord) :
    (trueAngle r < f.origin → effectiveAngle f r = f.origin) ∧
      (f.origin + 15 * f.step < trueAngle r → effectiveAngle f r = f.origin + 15 * f.step) ∧
      (f.origin ≤ trueAngle r → trueAngle r ≤ f.origin + 15 * f.step → effectiveAngle f r = trueAngle r) := by
  change (trueAngle r < f.origin → clamp f.origin (f.origin + 15 * f.step) (trueAngle r) = _) ∧
    (_ → clamp f.origin (f.origin + 15 * f.step) (trueAngle r) = _) ∧
    (_ → _ → clamp f.origin (f.origin + 15 * f.step) (trueAngle r) = _)
  unfold clamp
  refine ⟨fun h => if_pos h, fun h => ?_, fun h h' => ?_⟩
  · rw [if_neg (by omega), if_pos h]
  · rw [if_neg (Int.not_lt.2 h), if_neg (Int.not_lt.2 h')]

/-- At the curve's last angle the last bin stands alone (R58). -/
theorem curveAt_top (curve : Vector CurveBin 16) {f : Profile} {angle : Int} (hs : 0 < f.step)
    (hd : angle - f.origin = 15 * f.step) :
    curveAt curve f angle = ((curve[15].empty : Int), (curve[15].span : Int)) := by
  have bin : floorDiv (angle - f.origin) f.step = 15 := floorDiv_eq (by omega) (by omega) (by omega)
  unfold curveAt
  dsimp only
  rw [bin, if_pos le_rfl]

/-- Between two bins the empty force and the span lie on a line in 256 steps (R58, R59). -/
theorem curveAt_between (curve : Vector CurveBin 16) {f : Profile} {angle : Int} (hs : 0 < f.step) (i : Fin 15)
    (hl : i.val * f.step ≤ angle - f.origin) (hu : angle - f.origin < (i.val + 1) * f.step) :
    let n := floorDiv ((angle - f.origin - i.val * f.step) * 256) f.step
    curveAt curve f angle = (interpolate curve[i.val].empty curve[i.val + 1].empty n,
      interpolate curve[i.val].span curve[i.val + 1].span n) := by
  have bin : floorDiv (angle - f.origin) f.step = i.val := floorDiv_eq (by omega) hl hu
  have found : ∀ (k : Nat) (hk : k < 16), curveBin curve k = curve[k] := by
    intro k hk
    unfold curveBin
    rw [List.getD_eq_getElem _ _ (by simpa using hk), Vector.getElem_toList]
  unfold curveAt
  dsimp only
  rw [bin, if_neg (by omega), Int.toNat_natCast, found i.val (by omega), found (i.val + 1) (by omega)]

/-- A line between two bins stays between them (R59). -/
theorem interpolate_within {a b r : Int} (h0 : 0 ≤ r) (h1 : r ≤ 255) :
    (a ≤ b → a ≤ interpolate a b r ∧ interpolate a b r ≤ b) ∧
      (b ≤ a → b ≤ interpolate a b r ∧ interpolate a b r ≤ a) := by
  unfold interpolate floorDiv
  constructor <;> intro h
  · have low : 0 ≤ (b - a) * r := mul_nonneg (by omega) h0
    have high : (b - a) * r ≤ (b - a) * 256 := mul_le_mul_of_nonneg_left (by omega) (by omega)
    omega
  · have low : (a - b) * r ≤ (a - b) * 256 := mul_le_mul_of_nonneg_left (by omega) (by omega)
    have high : 0 ≤ (a - b) * r := mul_nonneg (by omega) h0
    have negated : (b - a) * r = -((a - b) * r) := by ring
    omega

/-! ### The sample (R60) -/

/-- The sample mass is the product over 65,536 rounded down, clamped; SAT says that the clamp changed it, or that a
reading was over range. -/
theorem sampleMass_spec (curve : Vector CurveBin 16) (f : Profile) (r : SweepRecord) :
    let es := curveAt curve f (effectiveAngle f r)
    let product := (liftForce f r - es.1) * es.2
    let mass := sampleMass curve f r
    (product < -2000 * 65536 → mass = -2000) ∧ (30001 * 65536 ≤ product → mass = 30000) ∧
      (-2000 * 65536 ≤ product → product < 30001 * 65536 → mass * 65536 ≤ product ∧ product < (mass + 1) * 65536) ∧
      (sampleSat curve f r = true ↔ product < -2000 * 65536 ∨ 30001 * 65536 ≤ product ∨
        r.head.marked = true ∨ r.rod.marked = true ∨ r.boom.marked = true) := by
  intro es product mass
  have raw : rawMass curve f r = product / 65536 := rfl
  have clamped : mass = clamp (-2000) 30000 (product / 65536) := rfl
  have sat : sampleSat curve f r = true ↔ mass ≠ product / 65536 ∨ r.head.marked = true ∨ r.rod.marked = true ∨
      r.boom.marked = true := by
    simp [sampleSat, raw, mass, or_assoc]
  have changed : mass ≠ product / 65536 ↔ product < -2000 * 65536 ∨ 30001 * 65536 ≤ product := by
    rw [clamped]
    unfold clamp
    split <;> [omega; split <;> omega]
  refine ⟨fun h => ?_, fun h => ?_, fun hl hu => ?_, sat.trans ?_⟩
  · rw [clamped, clamp, if_pos (by omega)]
  · rw [clamped, clamp, if_neg (by omega), if_pos (by omega)]
  · have same : mass = product / 65536 := by
      by_contra h
      have := changed.1 h
      omega
    rw [same]
    omega
  · rw [changed, or_assoc]

/-! ### The capture bins (R81) -/

/-- A capture sweep gives its force to the bin nearest to its angle, and to no other (R81). -/
theorem captureSweep_getElem (s : State) (r : SweepRecord) (bins : Vector CaptureBin 16) (i : Fin 16) :
    (captureSweep bins s.cal.profile s.supply.state (liftRate s.tracker.prevBoom r) r)[i] =
      if captures s r ∧ captureBinOf s.cal.profile (rawAngle r) = i.val ∧ bins[i].count < 255 then
        ⟨bins[i].sum + liftForce s.cal.profile r, bins[i].count + 1⟩
      else bins[i] := by
  unfold captureSweep
  dsimp only
  generalize captureBinOf s.cal.profile (rawAngle r) = b
  by_cases hc : captures s r ∧ 0 ≤ b
  case neg =>
    rw [if_neg (by rw [Bool.and_eq_true, capturable_iff, decide_eq_true_eq]; exact hc),
      if_neg fun h => hc ⟨h.1, by omega⟩]
  rw [if_pos (by rw [Bool.and_eq_true, capturable_iff, decide_eq_true_eq]; exact hc)]
  obtain ⟨hc, hb⟩ := hc
  by_cases hi : b = i.val
  · have inside : b.toNat < 16 := by omega
    have here : b.toNat = i.val := by omega
    rw [dif_pos inside]
    simp only [here, Fin.getElem_fin, Vector.getElem_set_self, CaptureBin.add]
    exact if_congr ⟨fun h => ⟨hc, hi, h⟩, fun h => h.2.2⟩ rfl rfl
  · rw [if_neg fun h => hi h.2.1]
    split
    · rw [Fin.getElem_fin, Vector.getElem_set_ne _ _ (by omega)]
      rfl
    · rfl

/-! ### The sweeps that feed the accumulator and the bins -/

/-- A record that leaves neither IDLE nor RETURN behind passed the role gate and showed no dump. -/
theorem State.changeCycle_passed {s : State} {r : SweepRecord} (hi : (s.changeCycle r).tracker.cycle ≠ .idle)
    (hr : (s.changeCycle r).tracker.cycle ≠ .ret) : usable r ∧ ¬dumpSeen s r := by
  by_cases hu : usable r
  case neg => exact absurd (s.changeCycle_gated hu).cycle hi
  refine ⟨hu, fun hd => hr ?_⟩
  rw [State.changeCycle_of_dump hu hd]
  split
  · exact s.abandonCheck_change.cycle
  · obtain ⟨_, dumped⟩ := s.dump_change r
    exact dumped.cycle

/-- WEIGH is entered from LIFT alone, and CHECK from RETURN (R27, R38). -/
theorem State.boomTransition_window (s : State) (boom : Int) :
    ((s.boomTransition boom).tracker.cycle = .weigh → s.tracker.cycle = .lift ∨ s.tracker.cycle = .weigh) ∧
      ((s.boomTransition boom).tracker.cycle = .check → s.tracker.cycle = .ret ∨ s.tracker.cycle = .check) := by
  cases h : s.tracker.cycle with
  | idle => rw [(s.boomTransition_idle h boom).cycle]; split <;> simp
  | dig => rw [(s.boomTransition_dig h boom).cycle]; split <;> simp
  | lift => rw [(s.boomTransition_lift h boom).cycle]; (repeat' split) <;> simp
  | weigh =>
    by_cases hl : boom < s.cal.profile.loAngle
    · simp [(s.boomTransition_weigh_below h hl).cycle]
    have above := Int.not_lt.1 hl
    by_cases hs : boom < s.cal.profile.hiAngle ∨ s.tracker.capture.isSome = true
    · simp [(s.boomTransition_weigh_stays h above hs).cycle]
    · obtain ⟨hh, hc⟩ := not_or.1 hs
      obtain ⟨_, change⟩ := s.endWindow_change
      rw [s.boomTransition_weigh_above h above (Int.not_lt.1 hh) (Bool.eq_false_iff.2 hc), change.cycle]
      split <;> simp
  | carry =>
    by_cases hb : boom < s.cal.profile.loAngle
    · simp [s.boomTransition_carry_below h hb, s.startReweigh_change.cycle]
    · simp [(s.boomTransition_carry_stays h (Int.not_lt.1 hb)).cycle]
  | ret =>
    by_cases hb : boom < s.cal.profile.digAngle
    · simp [s.boomTransition_ret_below h hb, State.enterDig]
    · rw [(s.boomTransition_ret h (Int.not_lt.1 hb)).cycle]; split <;> simp
  | check =>
    by_cases hb : boom < s.cal.profile.hiAngle
    · rw [(s.boomTransition_check h hb).1.cycle]; split <;> simp
    · obtain ⟨_, change, _⟩ := s.endCheck_change
      simp [s.boomTransition_check_above h (Int.not_lt.1 hb), change.cycle]

/-- A record behind which the tracker is in WEIGH or CHECK is taken by a boom transition. -/
theorem State.changeCycle_to_window {s : State} {r : SweepRecord} {c : CycleState}
    (hc : (s.changeCycle r).tracker.cycle = c) (hw : c = .weigh ∨ c = .check) :
    usable r ∧ ¬dumpSeen s r ∧ (c = .weigh → s.tracker.cycle = .lift ∨ s.tracker.cycle = .weigh) ∧
      (c = .check → s.tracker.cycle = .ret ∨ s.tracker.cycle = .check) := by
  have unreturned : (s.changeCycle r).tracker.cycle ≠ .ret := by rcases hw with h | h <;> simp [hc, h]
  obtain ⟨hu, hd⟩ := State.changeCycle_passed (by rcases hw with h | h <;> simp [hc, h]) unreturned
  by_cases he : s.tracker.capture.isSome = true ∧ captureEnds s r
  case pos =>
    obtain ⟨ha, hends⟩ := he
    obtain ⟨k, hk⟩ := Option.isSome_iff_exists.1 ha
    refine absurd ?_ unreturned
    rw [State.changeCycle_of_captureEnds hu hd ha hends, State.endCaptureLift_armed hk]
  case neg =>
    rw [State.changeCycle_of_moves hu hd he] at hc
    exact ⟨hu, hd, hc ▸ s.boomTransition_window r.boom.number⟩

/-- In WEIGH or CHECK the accumulator was emptied exactly by the record that came there. -/
theorem accEmptied_window {s : State} {r : SweepRecord} {c : CycleState} (hc : (s.changeCycle r).tracker.cycle = c)
    (hw : c = .weigh ∨ c = .check) : accEmptied s r c ↔ c ≠ s.tracker.cycle := by
  obtain ⟨hu, hd, weigh, check⟩ := State.changeCycle_to_window hc hw
  have moved : accEmptied s r c ↔ windowCleared s.tracker.cycle c r.boom.number s.cal.profile.hiAngle := by
    simp [accEmptied, hu, hd]
  rw [moved]
  rcases hw with rfl | rfl
  · rcases weigh rfl with h | h <;> simp [windowCleared, h]
  · rcases check rfl with h | h <;> simp [windowCleared, h]

/-- Elsewhere it was emptied by a forced IDLE, a dump, or a window or a check left below (R53). -/
theorem accEmptied_outside {s : State} {r : SweepRecord} {c : CycleState} (hw : c ≠ .weigh) (hk : c ≠ .check) :
    accEmptied s r c ↔ (¬usable r ∧ s.tracker.cycle ≠ .idle) ∨
      ((usable r ∧ r.bucket.number ≤ s.cal.profile.dumpAngle) ∧ (cycling s.tracker.cycle ∨ s.tracker.cycle = .check)) ∨
      (s.tracker.cycle = .weigh ∧ c = .lift) ∨
      (s.tracker.cycle = .check ∧ c = .ret ∧ r.boom.number < s.cal.profile.hiAngle) := by
  have cleared : windowCleared s.tracker.cycle c r.boom.number s.cal.profile.hiAngle ↔
      (s.tracker.cycle = .weigh ∧ c = .lift) ∨
        (s.tracker.cycle = .check ∧ c = .ret ∧ r.boom.number < s.cal.profile.hiAngle) := by
    simp [windowCleared, hw, hk]
  rw [accEmptied, cleared]
  exact or_congr Iff.rfl (or_congr and_assoc.symm Iff.rfl)

/-- Settles O19: the arithmetic lemma by lemma, and the sweeps by what the steps of a record make of the weighing
unit. -/
theorem weighingArithmeticRounds : Obligations.WeighingArithmeticRounds := by
  refine ⟨fun _ _ => floorDiv_spec, fun _ _ _ => rfl, fun _ _ _ _ => meanOf_within,
    fun _ _ => floorDiv_spec (by decide), effectiveAngle_spec,
    fun curve f angle hs => ⟨curveAt_top curve hs, curveAt_between curve hs⟩,
    fun _ _ _ => interpolate_within, sampleMass_spec, ?sweeps⟩
  intro c s sw hs r f cy boom lifted captured b dumped
  obtain ⟨t, all, v, hexec, taken, ht, weighed, _⟩ := hs.weighed
  obtain ⟨x, rfl⟩ : ∃ x, v = s.withParts x := ⟨v, taken.parts⟩
  set v := s.withParts x
  refine ⟨t, v.tracker.capture.isSome, hexec, fun ha => congrArg Option.isSome (taken.unaborted ha), ?_⟩
  intro cy' opened discards
  obtain ⟨_, changed, _⟩ := taken.figures
  have cycle : (v.takeSteps r).tracker.cycle = cy' := by rw [State.takeSteps_tracker]; exact changed.symm
  have steps := v.takeSteps_weigh r
  dsimp only at steps
  rw [cycle] at steps
  have acc := weighed.acc.trans (congrArg Weigh.acc steps)
  have found : cy' = .weigh ∨ cy' = .check →
      (if accEmptied v r cy' then noSamples else v.weigh.acc) = opened := by
    intro hw
    rw [if_congr (accEmptied_window changed.symm hw) rfl rfl, ite_not]
    rfl
  refine ⟨fun h => ?weighing, fun hw ha => ?capturing, fun hw hk => ?outside, fun hn => ?unarmed, fun ha hab => ?armed⟩
  case weighing =>
    dsimp only at acc
    rw [if_pos h, found (by tauto)] at acc
    exact acc
  case capturing =>
    dsimp only at acc
    rw [if_neg (by simp [isWeighingSweep, hw, ha]), found (.inl hw)] at acc
    exact acc
  case outside =>
    dsimp only at acc
    rw [if_neg (by simp [isWeighingSweep, hw, hk]), if_congr (accEmptied_outside hw hk) rfl rfl] at acc
    exact acc
  case unarmed =>
    have unaborted : ¬aborts s r := fun ⟨armed, _⟩ => by simp [hn] at armed
    obtain ⟨bins, same⟩ := weighed.bins unaborted
    have disarmed : v.tracker.capture = none := (taken.unaborted unaborted).trans hn
    rw [bins, steps]
    dsimp only
    rw [if_neg (by simp [isCaptureSweep, disarmed]), if_neg (by simp [binsEmptied, disarmed]), same]
  case armed =>
    obtain ⟨bins, same⟩ := weighed.bins hab
    have armed : v.tracker.capture.isSome = true := by
      rw [taken.unaborted hab]
      exact Option.isSome_iff_ne_none.2 ha
    rw [bins, steps]
    dsimp only
    refine ⟨fun hw i => ?_, fun hl hw => ?_⟩
    · have lifted : (v.changeCycle r).tracker.cycle = .lift ∨ (v.changeCycle r).tracker.cycle = .weigh := changed ▸ hw
      obtain ⟨hu, hd⟩ := State.changeCycle_passed (s := v) (r := r) (by rcases lifted with h | h <;> simp [h])
        (by rcases lifted with h | h <;> simp [h])
      have kept : ¬binsEmptied v r cy' := by
        rintro ⟨_, ⟨_, hdig⟩ | ⟨hun, _⟩ | ⟨_, hlow, hcy⟩⟩
        · rcases hw with h | h <;> simp [h] at hdig
        · exact hun hu
        · exact hd ⟨hlow, .inl hcy⟩
      rw [if_pos ⟨hw, armed⟩, if_neg kept, same]
      exact captureSweep_getElem v r s.weigh.bins i
    · rw [if_neg (by simp [isCaptureSweep, hl, hw]), same]
      refine if_congr ⟨fun h => ?_, fun h => ⟨armed, ?_⟩⟩ rfl rfl
      · exact h.2.imp id (.imp id fun ⟨hu, hlow, hcy⟩ => ⟨⟨hu, hlow⟩, hcy⟩)
      · exact h.imp id (.imp id fun ⟨⟨hu, hlow⟩, hcy⟩ => ⟨hu, hlow, hcy⟩)

end Sys2Proof.Machine
end

section
/-! The clock's tick (R26, R167), and the requests that answer a picture or change one field (R40, R41, R47, R67, R93,
R94, R102, R118, R138, R143, R158, R168, R181, R187). -/

namespace Sys2Proof.Machine

/-! ### The clock (R26, R167) -/

theorem Tracker.tick_eq (t : Tracker) : t.tick = { t with
    timer := if t.cycle = .idle then t.timer else min (t.timer + 1) 65535 } := by
  unfold Tracker.tick
  split <;> rfl

/-- Settles O7: what a tick does is told by the power state alone. -/
theorem clockTickAdvancesClockAndCycleTimer : Obligations.ClockTickAdvancesClockAndCycleTimer := by
  refine ⟨fun s hp => ?_, fun s hp => ?_⟩
  · simp only [exec, execClockTick, hp, Tracker.tick_eq]
  · simp only [exec, execClockTick, hp]

/-! ### What a request's first byte names (R194) -/

theorem sideOf_none {n : Nat} (h : 2 ≤ n) : sideOf n = none := by
  unfold sideOf
  split <;> [omega; omega; rfl]

theorem viewBayWork_side {payload : List Byte} {d : Side} (h : sideOf (natAt payload 0 1) = some d) (s : State) :
    viewBayWork payload s = (s, .ok (s.bayFigures d)) := by
  unfold viewBayWork
  rw [h]

theorem viewBayWork_range {payload : List Byte} (h : 2 ≤ natAt payload 0 1) (s : State) :
    viewBayWork payload s = (s, .range 1) := by
  unfold viewBayWork
  rw [sideOf_none h]

/-- VIEW_TRUCK by tag (R138). -/
theorem viewTruckWork_tag {payload : List Byte} (h : natAt payload 0 1 = 0) (s : State) : viewTruckWork payload s =
    if natAt payload 1 3 = 0 then (s, .range 2) else (s, .ok (s.truckByTag (natAt payload 1 3))) := by
  unfold viewTruckWork
  rw [h]
  rfl

/-- VIEW_TRUCK by set and way (R138). -/
theorem viewTruckWork_way {payload : List Byte} (h : natAt payload 0 1 = 1) (s : State) :
    (8 ≤ natAt payload 1 1 → viewTruckWork payload s = (s, .range 2)) ∧
      (natAt payload 1 1 < 8 → 4 ≤ natAt payload 2 1 → viewTruckWork payload s = (s, .range 3)) ∧
      (natAt payload 1 1 < 8 → natAt payload 2 1 < 4 → natAt payload 3 1 ≠ 0 →
        viewTruckWork payload s = (s, .range 4)) ∧
      (∀ (i : Fin 8) (w : Fin 4), natAt payload 1 1 = i.val → natAt payload 2 1 = w.val → natAt payload 3 1 = 0 →
        viewTruckWork payload s = (s, .ok (s.truckByWay ⟨i, w⟩))) := by
  unfold viewTruckWork
  rw [h]
  refine ⟨fun hs => dif_neg (Nat.not_lt.2 hs), fun hs hw => (dif_pos hs).trans (dif_neg (Nat.not_lt.2 hw)),
    fun hs hw hr => (dif_pos hs).trans ((dif_pos hw).trans (if_neg hr)), fun i w hs hw hr => ?_⟩
  refine (dif_pos (hs ▸ i.isLt)).trans ((dif_pos (hw ▸ w.isLt)).trans ((if_pos hr).trans ?_))
  simp only [hs, hw]

theorem viewTruckWork_range {payload : List Byte} (h : 2 ≤ natAt payload 0 1) (s : State) :
    viewTruckWork payload s = (s, .range 1) := by
  unfold viewTruckWork
  split <;> [omega; omega; rfl]

/-- VIEW_CURVE (R93). -/
theorem viewCurveWork_spec (payload : List Byte) (s : State) :
    (natAt payload 0 1 < 4 → natAt payload 1 1 = 0 →
      viewCurveWork payload s = (s, .ok (s.cal.activeFigures (natAt payload 0 1)))) ∧
    (natAt payload 0 1 < 4 → natAt payload 1 1 = 1 →
      viewCurveWork payload s = (s, .ok (s.cal.stagingFigures (natAt payload 0 1)))) ∧
    (natAt payload 0 1 < 4 → 2 ≤ natAt payload 1 1 → viewCurveWork payload s = (s, .range 2)) ∧
    (4 ≤ natAt payload 0 1 → viewCurveWork payload s = (s, .range 1)) := by
  unfold viewCurveWork
  dsimp only
  refine ⟨fun hp hc => ?_, fun hp hc => ?_, fun hp hc => ?_, fun hp => if_neg (Nat.not_lt.2 hp)⟩ <;> rw [if_pos hp]
  · rw [hc]; rfl
  · rw [hc]; rfl
  · split <;> [omega; omega; rfl]

/-! ### Pictures -/

/-- Settles O30: each work leaves the granted state, whose figures are those of the state before the grant. -/
theorem picturesChangeNothing : Obligations.PicturesChangeNothing := by
  intro s p r rest g figure
  refine ⟨fun ho => ho.answers none rfl rfl rfl rfl rfl, fun ho => ho.answers none rfl rfl rfl rfl rfl,
    fun ho => ho.answers none rfl rfl rfl rfl rfl, fun ho => ho.answers none rfl rfl rfl rfl rfl,
    fun ho => ho.answers none rfl rfl rfl rfl rfl, fun calen ho => ho.answers (some calen) rfl rfl rfl rfl rfl,
    fun ho => ?bay, fun ho => ?truck, fun ho => ?curve⟩
  case bay =>
    have answers : ∀ {status payload}, viewBayWork r.payload g = (g, ⟨status, payload⟩) →
        exec (.viewBay p) s = .next (g.answered p r status payload) :=
      fun hw => ho.answers none rfl hw rfl rfl rfl
    exact ⟨fun h => answers (viewBayWork_side (congrArg sideOf h) g),
      fun h => answers (viewBayWork_side (congrArg sideOf h) g), fun h => answers (viewBayWork_range h g)⟩
  case truck =>
    have answers : ∀ {status payload}, viewTruckWork r.payload g = (g, ⟨status, payload⟩) →
        exec (.viewTruck p) s = .next (g.answered p r status payload) :=
      fun hw => ho.answers none rfl hw rfl rfl rfl
    refine ⟨fun h ht => ?_, fun h ht => ?_, fun i w h hs hw hr => ?_, fun h hs => ?_, fun h hs hw => ?_,
      fun h hs hw hr => ?_, fun h => answers (viewTruckWork_range h g)⟩
    · exact answers ((viewTruckWork_tag h g).trans (if_neg ht))
    · exact answers ((viewTruckWork_tag h g).trans (if_pos ht))
    all_goals obtain ⟨set, way, reserved, entry⟩ := viewTruckWork_way h g
    · exact answers (entry i w hs hw hr)
    · exact answers (set hs)
    · exact answers (way hs hw)
    · exact answers (reserved hs hw hr)
  case curve =>
    have answers : ∀ {status payload}, viewCurveWork r.payload g = (g, ⟨status, payload⟩) →
        exec (.viewCurve p) s = .next (g.answered p r status payload) :=
      fun hw => ho.answers none rfl hw rfl rfl rfl
    obtain ⟨active, staging, choice, piece⟩ := viewCurveWork_spec r.payload g
    exact ⟨fun hp hc => answers (active hp hc), fun hp hc => answers (staging hp hc),
      fun hp hc => answers (choice hp hc), fun hp => answers (piece hp)⟩

/-! ### One field (R40, R41, R102, R168) -/

theorem selectBayWork_side {payload : List Byte} {d : Side} (h : sideOf (natAt payload 0 1) = some d) (s : State) :
    selectBayWork payload s = ({ s with bays := { s.bays with active := d } }, .ok []) := by
  unfold selectBayWork
  rw [h]

theorem selectBayWork_range {payload : List Byte} (h : 2 ≤ natAt payload 0 1) (s : State) :
    selectBayWork payload s = (s, .range 1) := by
  unfold selectBayWork
  rw [sideOf_none h]

theorem CycleState.weighing_iff (c : CycleState) : c.weighing = true ↔ c = .weigh ∨ c = .check := by
  cases c <;> simp [CycleState.weighing]

/-- ZERO_BUCKET (R40). -/
theorem zeroBucketWork_spec (payload : List Byte) (s : State) :
    (s.tracker.zeroPending = true → zeroBucketWork payload s = (s, .busy 3)) ∧
    (s.tracker.zeroPending = false → s.tracker.capture ≠ none → zeroBucketWork payload s = (s, .busy 4)) ∧
    (s.tracker.zeroPending = false → s.tracker.capture = none → s.tracker.cycle.weighing = true →
      zeroBucketWork payload s = (s, .stateTracker s.tracker.cycle)) ∧
    (s.tracker.zeroPending = false → s.tracker.capture = none → s.tracker.cycle.weighing = false →
      zeroBucketWork payload s = ({ s with tracker := { s.tracker with zeroPending := true } }, ⟨.accepted, []⟩)) := by
  unfold zeroBucketWork
  refine ⟨fun hz => if_pos hz, fun hz hk => ?_, fun hz hk hc => ?_, fun hz hk hc => ?_⟩ <;>
    rw [if_neg (Bool.eq_false_iff.1 hz)]
  · rw [if_pos (Option.isSome_iff_ne_none.2 hk)]
  · rw [if_neg (by simp [hk]), if_pos hc]
  · rw [if_neg (by simp [hk]), if_neg (Bool.eq_false_iff.1 hc)]
    rfl

/-- Settles O34: each work answers with the granted state, with at most one field of it changed. -/
theorem oneFieldRequestsChangeOneField : Obligations.OneFieldRequestsChangeOneField := by
  intro s p r rest g
  refine ⟨fun ho => ?select, fun ho hp => ?time, fun ho => ho.answers none rfl rfl rfl rfl rfl, fun ho => ?zero⟩
  case select =>
    exact ⟨fun h => ho.answers none rfl (selectBayWork_side (d := .left) (congrArg sideOf h) g) rfl rfl rfl,
      fun h => ho.answers none rfl (selectBayWork_side (d := .right) (congrArg sideOf h) g) rfl rfl rfl,
      fun h => ho.answers none rfl (selectBayWork_range h g) rfl rfl rfl⟩
  case time =>
    subst hp
    exact ho.answers none rfl rfl rfl rfl rfl
  case zero =>
    obtain ⟨zero, capture, weighing, accepted⟩ := zeroBucketWork_spec r.payload g
    have refused : ∀ {c : CycleState}, s.tracker.zeroPending = false → s.tracker.capture = none →
        s.tracker.cycle = c → c.weighing = true → exec (.zeroBucket p) s =
          .next (g.answered p r (Reply.stateTracker c).status (Reply.stateTracker c).payload) := by
      rintro c hz hk rfl hc
      exact ho.answers none rfl (weighing hz hk hc) rfl rfl rfl
    refine ⟨fun hz => ho.answers none rfl (zero hz) rfl rfl rfl,
      fun hz hk => ho.answers none rfl (capture hz hk) rfl rfl rfl, fun hz hk hc => refused hz hk hc rfl,
      fun hz hk hc => refused hz hk hc rfl, fun hz hk hw hc => ?_⟩
    have idle : g.tracker.cycle.weighing = false :=
      Bool.eq_false_iff.2 fun h => ((CycleState.weighing_iff _).1 h).elim hw hc
    exact ho.answers none rfl (accepted hz hk idle) rfl rfl rfl

end Sys2Proof.Machine
end

section
/-! The grants of the tracker's outcomes that move counters, the trim or a bay (R23, R31, R35, R36, R43, R97, R108 to
R111, R153, R154, R177). -/

namespace Sys2Proof.Machine

/-! ### The end of a grant that leaves the bays and the log (R97, R177) -/

theorem State.settle_bays_kept {pre s : State} (hb : s.bays.bay = pre.bays.bay) (hl : s.log.records = pre.log.records) :
    pre.settle s = { s with
      arb := { s.arb with fresh := s.arb.fresh && s.shift.counters == pre.shift.counters } } := by
  have unchanged : ∀ (d : Side) (t : State), t.bays = s.bays → pre.raiseBayChange d t = t := by
    intro d t ht
    have same : t.bay d = pre.bay d := by unfold State.bay; rw [ht, hb]
    unfold State.raiseBayChange
    simp [same]
  have fresh : (!recordsChanged pre s) = (s.shift.counters == pre.shift.counters) := by
    by_cases h : s.shift.counters = pre.shift.counters
    · simp [recordsChanged, hb, hl, h]
    · simp [recordsChanged, hb, hl, h, Ne.symm h]
  unfold State.settle
  rw [unchanged .left s rfl, unchanged .right s rfl, fresh]

/-- What a raised notice that is not NODE makes of the ports, in the words of the statements (R182): both pacers have
counted it, and nothing else of a port has changed. The ports alone say so. -/
theorem raised_ports {s t u : State} {n : Notice} (hn : n ≠ .node) (hu : u.ports = s.ports)
    (ht : t.ports = (u.raise n).ports) : samePorts s t ∧ noticedBoth s t n.kind := by
  have one : ∀ p, noticed s t p n.kind := by
    intro p
    rw [noticed, State.port_of_ports ht, State.count_raise, if_pos ⟨rfl, fun h => hn h.1⟩, State.port_of_ports hu]
  refine ⟨fun p => ?_, one .cab, one .fleet⟩
  rw [State.port_of_ports ht, ← State.port_of_ports hu]
  exact u.port_raise n p

/-! ### The counters of outcomes (R23, R31, R36) -/

/-- Settles O21: each work moves the counters alone, and PILE is the one notice raised. -/
theorem outcomesMoveTheirCounters : Obligations.OutcomesMoveTheirCounters := by
  refine ⟨fun s time rest ho => ?pile, fun s rest ho => ?reweigh, fun s rest ho => ?lost⟩
  case pile =>
    intro c
    have granted := ho.grant (work := pileDumpWork) rfl
    rw [State.settle_bays_kept (by simp) (by simp)] at granted
    obtain ⟨ports, counted⟩ := raised_ports (s := s) (n := .pile) (by decide) rfl rfl
    refine ⟨_, granted, ?_, ports, counted, ?_, ?_⟩
    · apply State.eq_of_fields <;> simp
    · simp [Counters.pileDump, satAdd, c]
    · simp [c]
  case reweigh =>
    exact (ho.grant (work := reweighWork) rfl).trans (congrArg _ (State.settle_bays_kept rfl rfl))
  case lost =>
    exact (ho.grant (work := lostCycleWork) rfl).trans (congrArg _ (State.settle_bays_kept rfl rfl))

/-! ### The zero trim (R43) -/

/-- Settles O23: the work sets the trim alone, and raises ZERO. -/
theorem zeroOutcomeSetsTrim : Obligations.ZeroOutcomeSetsTrim := by
  intro s z rest ho
  have trimmed : zeroWork (.zero z) = some fun u => ({ u with
      weigh := { u.weigh with zeroTrim := if z.accepted then z.mean else u.weigh.zeroTrim } }).raise .zero := by
    refine congrArg some (funext fun u => ?_)
    split <;> rfl
  have granted := ho.grant trimmed
  rw [State.settle_same (by simp) (by simp) (by simp)] at granted
  obtain ⟨ports, counted⟩ := raised_ports (s := s) (n := .zero) (by decide) rfl rfl
  refine ⟨_, granted, ?_, ports, counted, ?_⟩
  · apply State.eq_of_fields <;> simp
  · simp

end Sys2Proof.Machine
end

section
/-! The grant of a truck dump (R35, R97, R108 to R111): the load it finds or opens, the pass it makes or merges into,
and the reference it gives back. -/

namespace Sys2Proof.Machine

/-! ### The load that a truck dump finds or opens (R108) -/

/-- The bay record with which an anonymous load opens, the profile's defaults its figures (R108). -/
def State.anonymousBay (s : State) (d : Side) : Bay :=
  ({ s.bay d with
    load := s.bays.nextLoad, opened := s.clock, passes := [], total := 0, tag := none, ref := none
    material := s.cal.profile.defMaterial, target := s.cal.profile.defTarget
    max := s.cal.profile.defMax }).restate

theorem State.openAnonymous_eq (s : State) (d : Side) : s.openAnonymous d = { s with bays := { s.bays with
    bay := s.bays.bay.modify d fun _ => s.anonymousBay d, nextLoad := nextLoadAfter s.bays.nextLoad } } := by
  cases d <;> rfl

/-- The bay record that takes the bucket: an EMPTY bay has opened an anonymous load (R108). -/
def State.loadedBay (s : State) (d : Side) : Bay := if (s.bay d).state = .empty then s.anonymousBay d else s.bay d

/-- The next load number, taken when an EMPTY bay opens a load (R100, R108). -/
def State.nextLoadOnDump (s : State) (d : Side) : Nat :=
  if (s.bay d).state = .empty then nextLoadAfter s.bays.nextLoad else s.bays.nextLoad

theorem State.ensureLoad_eq (s : State) (d : Side) : s.ensureLoad d = { s with bays := { s.bays with
    bay := s.bays.bay.modify d fun _ => s.loadedBay d, nextLoad := s.nextLoadOnDump d } } := by
  unfold State.ensureLoad State.loadedBay State.nextLoadOnDump
  split
  · exact s.openAnonymous_eq d
  · cases d <;> rfl

/-- The bay record behind the commit (R109 to R111). -/
def State.committedBay (s : State) (d : Side) (w : WindowResult) (time : Nat) : Bay :=
  let b := s.loadedBay d
  b.withPasses (committedPasses b.passes w (s.fill b.material) time s.clock)

/-- What a truck dump makes of the state, but for the notice PASS. -/
def State.dumped (s : State) (d : Side) (w : WindowResult) (time dump : Nat) : State :=
  { s with
    bays := { s.bays with
      bay := s.bays.bay.modify d fun _ => s.committedBay d w time, nextLoad := s.nextLoadOnDump d }
    shift := { s.shift with counters := s.shift.counters.truckDump w time }
    tracker := s.tracker.takeRef ⟨d, (s.loadedBay d).load, commitIndex (s.loadedBay d)⟩ dump }

theorem State.truckDump_eq (s : State) (w : WindowResult) (time : Nat) (choice : BayChoice) (dump : Nat) :
    s.truckDump w time choice dump = (s.dumped (s.resolve choice) w time dump).raise (.pass (s.resolve choice)) := by
  unfold State.truckDump State.commit
  dsimp only
  rw [State.ensureLoad_eq]
  cases s.resolve choice <;> rfl

/-! ### The pass (R109, R110) -/

theorem committedPasses_append {ps : List Pass} (h : ps.length < 12) (w : WindowResult) (fill : Nat → Nat) (time : Nat)
    (clock : Clock) : committedPasses ps w fill time clock =
      ps ++ [⟨ps.length + 1, w.net, fill w.net, w.flags, time, clock, none⟩] := if_pos h

theorem committedPasses_merge {ps : List Pass} {p : Pass} (h : ps.length = 12) (hp : ps.getLast? = some p)
    (w : WindowResult) (fill : Nat → Nat) (time : Nat) (clock : Clock) :
    committedPasses ps w fill time clock = ps.dropLast ++ [p.merge w fill time clock] := by
  have last : ps[11] = p := by
    rw [List.getLast?_eq_getElem?, h] at hp
    exact (List.getElem?_eq_some_iff.1 hp).2
  unfold committedPasses
  rw [if_neg (by omega), List.modify_eq_take_cons_drop (by omega), last, List.dropLast_eq_take, h,
    List.drop_of_length_le (by omega)]

/-! ### The notice PASS (R182) -/

theorem Pacer.passBays_raise (pc : Pacer) (n : Notice) :
    (pc.raise n).passBays = match n with
      | .pass d => pc.passBays.modify d fun _ => true
      | _ => pc.passBays := by
  cases n <;> unfold Pacer.raise Pacer.assert Pacer.note <;> dsimp only <;> split <;> rfl

/-- The end of a grant names no bay of PASS. -/
theorem State.passBays_settle (pre s : State) (p : Port) :
    ((pre.settle s).port p).pacer.passBays = (s.port p).pacer.passBays := by
  have one : ∀ (t : State) (d : Side),
      ((pre.raiseBayChange d t).port p).pacer.passBays = (t.port p).pacer.passBays := by
    intro t d
    unfold State.raiseBayChange
    split
    · rw [State.pacer_raise, if_neg (by simp), Pacer.passBays_raise]
    · rfl
  have both : (pre.settle s).port p = (pre.raiseBayChange .right (pre.raiseBayChange .left s)).port p := rfl
  rw [both, one, one]

/-- The notices of a grant that raises PASS for a bay, and BAY for the bays that it changes. -/
theorem passed_ports {s u : State} (d : Side) (hu : u.ports = s.ports) :
    let t := s.settle (u.raise (.pass d))
    samePorts s t ∧ noticedBoth s t .pass ∧ bayNotices s t ∧ ∀ p, (t.port p).pacer.passBays.get d = true := by
  intro t
  obtain ⟨ports, counted⟩ := raised_ports (t := u.raise (.pass d)) (n := .pass d) (by simp) hu rfl
  have pacer : ∀ p, ((u.raise (.pass d)).port p).pacer = (s.port p).pacer.raise (.pass d) := by
    intro p
    rw [State.pacer_raise, if_neg (by simp), State.port_of_ports hu]
  refine ⟨fun p => ?_, ⟨?_, ?_⟩, State.settle_bayNotices (fun p => ?_) (fun p => ?_), fun p => ?_⟩
  · rw [State.port_settle, ports p]
  · rw [noticed, State.count_settle _ _ _ _ (by decide)]
    exact counted.1
  · rw [noticed, State.count_settle _ _ _ _ (by decide)]
    exact counted.2
  · rw [pacer, Pacer.count_raise, if_neg (by simp [Notice.kind])]
  · rw [pacer, Pacer.bayBays_raise]
  · rw [State.passBays_settle, pacer, Pacer.passBays_raise, Sides.get_modify_same]

/-! ### The statement -/

/-- Settles O20: the grant ends as `State.dumped` with PASS raised, and the pass list by the two ways of a commit. -/
theorem truckDumpCommitsPass : Obligations.TruckDumpCommitsPass := by
  intro s w time choice dump rest ho d f b c
  have granted := ho.grant (work := truckDumpWork) rfl
  obtain ⟨u, hu⟩ : ∃ u, u = { s with arb := { s.arb with items := rest } } := ⟨_, rfl⟩
  have named : u.resolve choice = d := by rw [hu]; cases choice <;> rfl
  rw [← hu, State.truckDump_eq, named] at granted
  obtain ⟨ports, counted, bayed, passed⟩ := passed_ports (s := s) (u := u.dumped d w time dump) d (by rw [hu]; rfl)
  generalize ht : s.settle ((u.dumped d w time dump).raise (.pass d)) = t at granted ports counted bayed passed
  have frame : t = { s with
      bays := t.bays, shift := t.shift, tracker := t.tracker, ports := t.ports, arb := t.arb } := by
    subst ht hu
    apply State.eq_of_fields <;> simp [State.dumped]
  have bays : t.bays = (s.dumped d w time dump).bays := by rw [← ht, State.settle_bays, State.raise_bays, hu]; rfl
  have shift : t.shift = (s.dumped d w time dump).shift := by
    rw [← ht, State.settle_shift, State.raise_shift, hu]; rfl
  have tracker : t.tracker = (s.dumped d w time dump).tracker := by
    rw [← ht, State.settle_tracker, State.raise_tracker, hu]; rfl
  have arb : t.arb = { s.arb with items := rest, fresh := t.arb.fresh } := by
    rw [← ht, State.settle_arb, State.raise_arb, hu]; rfl
  clear ht
  refine ⟨t, granted, ?_⟩
  intro b' pass
  have committed : b' = s.committedBay d w time := by
    change t.bays.bay.get d = _
    rw [bays]
    exact Sides.get_modify_same _ _ _
  obtain ⟨x, hx⟩ : ∃ x, x = s.loadedBay d := ⟨_, rfl⟩
  have after : b' = { x with
      passes := committedPasses x.passes w (s.fill x.material) time s.clock
      total := sumNets (committedPasses x.passes w (s.fill x.material) time s.clock)
      state := bayStateFor x.load (committedPasses x.passes w (s.fill x.material) time s.clock)
        (sumNets (committedPasses x.passes w (s.fill x.material) time s.clock)) x.target x.max } := by
    rw [committed, hx]; rfl
  have opened : b.state = .empty → x = s.anonymousBay d := fun h => hx.trans (if_pos h)
  have found : b.state ≠ .empty → x = b := fun h => hx.trans (if_neg h)
  have count : (if b.state = .empty then 0 else b.passes.length) = x.passes.length := by
    split
    · rw [opened ‹_›]; rfl
    · rw [found ‹_›]
  have made : pass = ⟨x.passes.length + 1, w.net, s.fill x.material w.net, w.flags, time, s.clock, none⟩ := by
    simp only [pass, count, after]
    rfl
  have appended : x.passes.length < 12 → b'.passes = x.passes ++ [pass] := by
    intro h
    rw [made, after]
    exact committedPasses_append h w _ time s.clock
  refine ⟨frame, ?beside, by rw [bays]; rfl, by rw [bays]; rfl, by rw [bays]; rfl, by rw [arb], by rw [arb], ports,
    counted, bayed, passed, fun h => ?opens, fun h => ?finds, fun h hl => ?appends, fun p12 h hl hp => ?merges,
    by rw [after], by rw [after], shift, ?takes⟩
  case beside =>
    change t.bays.bay.get d.other = s.bays.bay.get d.other
    rw [bays]
    exact Sides.get_modify_other _ _ _
  case opens =>
    have empty : x.passes = [] := by rw [opened h]; rfl
    refine ⟨?_, by rw [bays]; exact if_pos h, ?_, ?_, ?_, ?_, ?_, ?_, ?_⟩
    case refine_8 => rw [appended (by rw [empty]; decide), empty]; rfl
    all_goals rw [after, opened h]; rfl
  case finds =>
    refine ⟨by rw [bays]; exact if_neg h, ?_⟩
    rw [after, found h]
  case appends => rw [appended (by rwa [found h]), found h]
  case merges =>
    rw [after, found h]
    exact committedPasses_merge hl hp w _ time s.clock
  case takes =>
    rw [tracker, made, after, hx]
    rfl

end Sys2Proof.Machine
end

section
/-! SUPPORT. The blocks of the state, and which of them the operations on notices, bays, trucks, the log and the
counters may change: one lemma for each operation. -/

namespace Sys2Proof.Machine

/-! ### Blocks, and what it is to leave one alone -/

/-- A block of the state that has writers of its own, or a part of one that the end of a grant looks at. -/
inductive Block where
  | power
  | resetRecord
  | pins
  | clock
  | link
  | tracker
  | window
  | trim
  | curve
  | staging
  | report
  | profile
  | bays
  /-- the two bay records, which the fresh flag looks at (R177) -/
  | bayRecords
  /-- the state, load number and tag of each bay, which BAY looks at (R97) -/
  | bayLabels
  | trucks
  | materials
  | log
  /-- the records of the log, which the fresh flag looks at (R177) -/
  | logRecords
  | shift
  /-- the shift counters, which the fresh flag looks at (R177) -/
  | counters
  | supply
  | openChoice
  | items
  | lastServed
  | fresh
  /-- the fresh flag once it is clear -/
  | staleness
  /-- a port but for its pacer -/
  | port (p : Port)
  | pacer (p : Port)

/-- The block is as it was. -/
def Block.kept (b : Block) (s t : State) : Prop :=
  match b with
  | .power => t.power = s.power
  | .resetRecord => t.resetRecord = s.resetRecord
  | .pins => t.pins = s.pins
  | .clock => t.clock = s.clock
  | .link => t.link = s.link
  | .tracker => t.tracker = s.tracker
  | .window => t.weigh.acc = s.weigh.acc ∧ t.weigh.bins = s.weigh.bins
  | .trim => t.weigh.zeroTrim = s.weigh.zeroTrim
  | .curve => t.cal.active = s.cal.active ∧ t.cal.generation = s.cal.generation
  | .staging => t.cal.staging = s.cal.staging
  | .report => t.cal.report = s.cal.report
  | .profile => t.cal.profile = s.cal.profile
  | .bays => t.bays = s.bays
  | .bayRecords => t.bays.bay = s.bays.bay
  | .bayLabels => ∀ d,
    (t.bay d).state = (s.bay d).state ∧ (t.bay d).load = (s.bay d).load ∧ (t.bay d).tag = (s.bay d).tag
  | .trucks => t.trucks = s.trucks
  | .materials => t.materials = s.materials
  | .log => t.log = s.log
  | .logRecords => t.log.records = s.log.records
  | .shift => t.shift = s.shift
  | .counters => t.shift.counters = s.shift.counters
  | .supply => t.supply = s.supply
  | .openChoice => t.openChoice = s.openChoice
  | .items => t.arb.items = s.arb.items
  | .lastServed => t.arb.lastServed = s.arb.lastServed
  | .fresh => t.arb.fresh = s.arb.fresh
  | .staleness => t.arb.fresh = true → s.arb.fresh = true
  | .port p => t.port p = { s.port p with pacer := (t.port p).pacer }
  | .pacer p => (t.port p).pacer = (s.port p).pacer

theorem Block.kept.refl (b : Block) (s : State) : b.kept s s := by
  cases b <;> simp [Block.kept]

theorem Block.kept.trans {b : Block} {s t u : State} (h : b.kept s t) (h' : b.kept t u) : b.kept s u := by
  cases b
  case staleness => exact fun hu => h (h' hu)
  case port p =>
    change u.port p = _
    rw [h', h]
  all_goals simp_all [Block.kept]

/-- All but these blocks are as they were. -/
def changesOnly (bs : List Block) (s t : State) : Prop := ∀ b, b ∈ bs ∨ b.kept s t

theorem changesOnly.refl (bs : List Block) (s : State) : changesOnly bs s s := fun b => .inr (Block.kept.refl b s)

/-- One change after another. -/
theorem changesOnly.trans {bs cs : List Block} {s t u : State} (h : changesOnly bs s t) (h' : changesOnly cs t u) :
    changesOnly (bs ++ cs) s u := by
  intro b
  rw [List.mem_append]
  rcases h b with hb | kept
  · exact .inl (.inl hb)
  · exact (h' b).imp .inr kept.trans

/-- A longer list holds as well. -/
theorem changesOnly.mono {bs cs : List Block} {s t : State} (h : changesOnly bs s t)
    (hb : ∀ b ∈ bs, b ∈ cs := by simp) : changesOnly cs s t := fun b => (h b).imp_left (hb b)

/-- A block outside the list is as it was. -/
theorem changesOnly.kept {bs : List Block} {s t : State} (h : changesOnly bs s t) {b : Block} (hb : b ∉ bs) :
    b.kept s t := (h b).resolve_left hb

/-! ### Notices and the end of a grant (R97, R177, R182) -/

/-- Both pacers. -/
abbrev pacerBlocks : List Block := [.pacer .cab, .pacer .fleet]

/-- The bay manager, with what the end of a grant looks at. -/
abbrev bayBlocks : List Block := [.bays, .bayRecords, .bayLabels]

/-- The shift block, with what the end of a grant looks at. -/
abbrev shiftBlocks : List Block := [.shift, .counters]

/-- The log, with what the end of a grant looks at. -/
abbrev logBlocks : List Block := [.log, .logRecords]

theorem State.raise_changes (s : State) (n : Notice) : changesOnly pacerBlocks s (s.raise n) := by
  intro b
  cases b
  case port p => exact .inr (s.port_raise n p)
  case pacer p => cases p <;> simp
  all_goals simp [Block.kept, State.bay]

/-- The end of a grant changes at most the fresh flag and the pacers (R97, R177). -/
theorem State.settle_changes (pre s : State) : changesOnly (.fresh :: pacerBlocks) s (pre.settle s) := by
  intro b
  cases b
  case port p => exact .inr (pre.port_settle s p)
  case pacer p => cases p <;> simp
  all_goals simp +contextual [Block.kept, State.bay]

/-- A grant that leaves the labels of the bays raises no BAY (R97). -/
theorem State.settle_pacer {pre s : State} (h : Block.bayLabels.kept pre s) (p : Port) :
    (Block.pacer p).kept s (pre.settle s) := by
  have quiet : ∀ (t : State) (d : Side), t.bays = s.bays → pre.raiseBayChange d t = t := by
    intro t d ht
    obtain ⟨state, load, tag⟩ := h d
    unfold State.raiseBayChange
    rw [State.bay_of_bays ht]
    exact if_neg (by simp [state, load, tag])
  change ((pre.raiseBayChange .right (pre.raiseBayChange .left s)).port p).pacer = _
  rw [quiet s .left rfl, quiet s .right rfl]

/-- A grant that leaves the bay records, the counters and the log's records leaves the fresh flag (R177). -/
theorem State.settle_fresh {pre s : State} (hb : Block.bayRecords.kept pre s) (hc : Block.counters.kept pre s)
    (hl : Block.logRecords.kept pre s) : Block.fresh.kept s (pre.settle s) := by
  rw [State.settle_same hb hc hl]
  exact Block.kept.refl _ s

/-! ### Bays and trucks (chapters 5 and 6) -/

theorem State.modifyBay_changes (s : State) (d : Side) (f : Bay → Bay) :
    changesOnly bayBlocks s (s.modifyBay d f) := by
  intro b
  cases b <;> simp [Block.kept, State.port]

theorem State.modifySet_changes (s : State) (i : Fin 8) (f : TruckSet → TruckSet) :
    changesOnly [.trucks] s (s.modifySet i f) := by
  intro b
  cases b <;> simp [Block.kept, State.port, State.bay]

/-- A bay that loses its reference keeps its label (R97, R133). -/
theorem State.loseRef_changes (s : State) (ref : TruckRef) : changesOnly [.bays, .bayRecords] s (s.loseRef ref) := by
  intro b
  cases b
  case bayLabels =>
    have label : ∀ x : Bay, (x.loseRef ref).state = x.state ∧ (x.loseRef ref).load = x.load ∧
        (x.loseRef ref).tag = x.tag := by
      intro x
      unfold Bay.loseRef
      split <;> exact ⟨rfl, rfl, rfl⟩
    refine .inr fun d => ?_
    cases d <;> exact label _
  all_goals simp [Block.kept, State.port, State.loseRef]

/-- The truck table, and references to it. -/
abbrev truckBlocks : List Block := [.trucks, .bays, .bayRecords]

theorem State.place_changes (s : State) (ref : TruckRef) (e : TruckEntry) :
    changesOnly truckBlocks s (s.place ref e) := by
  unfold State.place
  split
  · exact ((s.loseRef_changes ref).trans (State.modifySet_changes _ _ _)).mono
  · exact (s.modifySet_changes _ _).mono

theorem State.identify_changes (s : State) (d : Side) (tag : Nat) :
    changesOnly (.trucks :: bayBlocks) s (s.identify d tag) := by
  unfold State.identify
  dsimp only
  split
  · exact ((s.modifySet_changes _ _).trans (State.modifyBay_changes _ _ _)).mono
  · split
    · exact ((s.place_changes _ _).trans (State.modifyBay_changes _ _ _)).mono
    · exact (s.modifyBay_changes _ _).mono

theorem State.writeTruck_changes (s : State) (tag target max : Nat) (material : Fin 16) (pinned : Bool)
    (way : Option (Fin 4)) : changesOnly truckBlocks s (s.writeTruck tag target max material pinned way).1 := by
  unfold State.writeTruck
  split
  · exact (s.modifySet_changes _ _).mono
  · split
    · exact s.place_changes _ _
    · exact .refl _ s

theorem State.takeNumber_changes (s : State) (d : Side) : changesOnly bayBlocks s (s.takeNumber d) := by
  intro b
  cases b <;> simp [Block.kept, State.port]

theorem State.openLoad_changes (s : State) (d : Side) : changesOnly bayBlocks s (s.openLoad d) :=
  ((s.takeNumber_changes d).trans (State.modifyBay_changes _ _ _)).mono

theorem State.openFor_changes (s : State) (d : Side) (tag : Nat) :
    changesOnly (.trucks :: bayBlocks) s (s.openFor d tag) :=
  (((s.openLoad_changes d).trans (State.identify_changes _ d tag)).trans (State.modifyBay_changes _ _ _)).mono

theorem State.ensureLoad_changes (s : State) (d : Side) : changesOnly bayBlocks s (s.ensureLoad d) := by
  unfold State.ensureLoad
  split
  · exact ((s.openLoad_changes d).trans (State.modifyBay_changes _ _ _)).mono
  · exact .refl _ s

theorem State.modifyTracker_changes (s : State) (f : Tracker → Tracker) :
    changesOnly [.tracker] s (s.modifyTracker f) := by
  intro b
  cases b <;> simp [Block.kept, State.port, State.bay]

theorem State.count_changes (s : State) (f : Counters → Counters) : changesOnly shiftBlocks s (s.count f) := by
  intro b
  cases b <;> simp [Block.kept, State.port, State.bay]

theorem State.append_changes (s : State) (r : LogRecord) : changesOnly (logBlocks ++ pacerBlocks) s (s.append r) := by
  have logged : changesOnly logBlocks s { s with log := s.log.append r } := by
    intro b
    cases b <;> simp [Block.kept, State.port, State.bay]
  cases r <;> exact logged.trans (State.raise_changes _ _)

/-- A renumbered load is renamed in the truck-dump reference (R101). -/
theorem State.renumber_changes (s : State) (d : Side) (logged : Nat) :
    changesOnly (.tracker :: bayBlocks) s (s.renumber d logged) := by
  unfold State.renumber
  dsimp only
  split
  · exact ((s.takeNumber_changes d).trans (State.modifyTracker_changes _ fun t =>
      { t with dumpRef := t.dumpRef.map fun r => r.renumbered d (s.bay d).load s.bays.nextLoad })).mono
  · exact .refl _ s

/-- What a truck that arrives may change: the bays, the truck table and, where it closes a load, what a close changes
(R101, R103 to R106, R114). -/
abbrev arrivalBlocks : List Block := .tracker :: .trucks :: bayBlocks ++ logBlocks ++ shiftBlocks ++ pacerBlocks

theorem State.closeLoad_changes (s : State) (d : Side) (reason : CloseReason) :
    changesOnly arrivalBlocks s (s.closeLoad d reason) := by
  have appended := s.append_changes (.load (loadRecord (s.bay d) d reason s.clock s.shift.number))
  have closes : ∀ t : State, changesOnly (.trucks :: logBlocks ++ pacerBlocks) s t → ∀ f n,
      changesOnly arrivalBlocks s (((t.count f).modifyBay d Bay.cleared).renumber d.other n) := fun t h f n =>
    (((h.trans (t.count_changes f)).trans (State.modifyBay_changes _ _ _)).trans (State.renumber_changes _ _ _)).mono
  unfold State.closeLoad
  refine closes _ ?_ _ _
  split
  · exact (appended.trans (State.modifySet_changes _ _ _)).mono
  · exact appended.mono

theorem State.truckArrives_changes (s : State) (d : Side) (tag : Nat) :
    changesOnly arrivalBlocks s (s.truckArrives d tag) := by
  have identified : changesOnly arrivalBlocks s ((s.identify d tag).modifyBay d Bay.restate) :=
    ((s.identify_changes d tag).trans (State.modifyBay_changes _ _ _)).mono
  have stays := changesOnly.refl arrivalBlocks s
  unfold State.truckArrives
  dsimp only
  split
  case h_1 => exact (s.openFor_changes d tag).mono
  case h_2 => split <;> [exact stays; exact identified]
  all_goals
    split
    · exact identified
    · split
      · exact stays
      · exact ((s.closeLoad_changes d .newTruck).trans (State.openFor_changes _ d tag)).mono

theorem State.tagEvent_changes (s : State) (e : TagEvent) : changesOnly arrivalBlocks s (s.tagEvent e) := by
  unfold State.tagEvent
  split
  · intro b
    cases b <;> simp [Block.kept, State.port]
  · exact s.truckArrives_changes _ _

theorem State.truckDump_changes (s : State) (w : WindowResult) (cycleTime : Nat) (choice : BayChoice) (dump : Nat) :
    changesOnly (.tracker :: bayBlocks ++ shiftBlocks ++ pacerBlocks) s (s.truckDump w cycleTime choice dump) := by
  have committed : ∀ (t : State) (d : Side), changesOnly (bayBlocks ++ pacerBlocks) t (t.commit d w cycleTime) :=
    fun t d => (t.modifyBay_changes d _).trans (State.raise_changes _ _)
  exact ((((s.ensureLoad_changes _).trans (committed _ _)).trans (State.count_changes _ _)).trans
    (State.modifyTracker_changes _ _)).mono

theorem State.applyResidue_changes (s : State) (r : Nat) (ref : DumpRef) :
    changesOnly (bayBlocks ++ shiftBlocks ++ pacerBlocks) s (s.applyResidue r ref) := by
  have reported : ∀ (t : State) (x : ResidueReport), changesOnly (bayBlocks ++ pacerBlocks) t
      (State.raise { t with bays := { t.bays with residueReport := some x } } .residue) := by
    intro t x
    have noted : changesOnly bayBlocks t { t with bays := { t.bays with residueReport := some x } } := by
      intro b
      cases b <;> simp [Block.kept, State.port]
    exact noted.trans (State.raise_changes _ _)
  unfold State.applyResidue
  dsimp only
  split
  · exact (((s.modifyBay_changes _ _).trans (State.count_changes _ _)).trans (reported _ _)).mono
  · exact (reported s _).mono

theorem State.endShift_changes (s : State) (p : Port) :
    changesOnly (logBlocks ++ shiftBlocks ++ pacerBlocks) s (s.endShift p) := by
  have begun : ∀ (t : State) (x : Shift), changesOnly shiftBlocks t { t with shift := x } := by
    intro t x b
    cases b <;> simp [Block.kept, State.port, State.bay]
  exact ((s.append_changes (.shift (s.shiftRecord p))).trans (begun _ _)).mono

end Sys2Proof.Machine
end

section
/-! SUPPORT. What the work of each request and of each item may change. -/

namespace Sys2Proof.Machine

/-! ### The works of requests -/

/-- Work that changes these blocks alone, whatever payload it is given. -/
abbrev WorkChanges (bs : List Block) (work : List Byte → State → State × Reply) : Prop :=
  ∀ payload s, changesOnly bs s (work payload s).1

theorem viewWork_changes (figures : State → List Byte) : WorkChanges [] (viewWork figures) := fun _ s => .refl _ s

theorem viewBayWork_changes : WorkChanges [] viewBayWork := by
  intro payload s
  unfold viewBayWork
  split <;> exact .refl _ s

theorem viewTruckWork_changes : WorkChanges [] viewTruckWork := by
  intro payload s
  unfold viewTruckWork
  split <;> (repeat' split) <;> exact .refl _ s

theorem viewCurveWork_changes : WorkChanges [] viewCurveWork := by
  intro payload s
  unfold viewCurveWork
  dsimp only
  split
  · split <;> exact .refl _ s
  · exact .refl _ s

/-- A read moves the counts, and not the records (R151). -/
theorem nextRecordWork_changes (p : Port) : WorkChanges [.log] (nextRecordWork p) := by
  intro payload s b
  cases b <;> simp [Block.kept, nextRecordWork, Log.afterRead, State.port, State.bay]

theorem State.modifyLink_changes (s : State) (f : Link → Link) : changesOnly [.link] s (s.modifyLink f) := by
  intro b
  cases b <;> simp [Block.kept, State.port, State.bay]

theorem viewNodesWork_changes : WorkChanges [.link] viewNodesWork := fun _ s => s.modifyLink_changes _

theorem nodeAccessWork_changes : WorkChanges [.link] nodeAccessWork := by
  intro payload s
  obtain ⟨slots, h⟩ := nodeAccessWork_slots payload s
  rw [h]
  exact s.modifyLink_changes fun l => { l with slots := slots }

theorem nodeResultWork_changes : WorkChanges [.link] nodeResultWork := by
  intro payload s
  obtain ⟨slots, h⟩ := nodeResultWork_slots payload s
  rw [h]
  exact s.modifyLink_changes fun l => { l with slots := slots }

/-- A change of a port that leaves its pacer. -/
theorem State.modifyPort_changes (s : State) (p : Port) {f : PortBlock → PortBlock}
    (hf : ∀ b, (f b).pacer = b.pacer) : changesOnly [.port p] s (s.modifyPort p f) := by
  intro b
  cases b
  case port q =>
    by_cases h : q = p
    · simp [h]
    · exact .inr (by simp [Block.kept, State.port, Ports.get_modify_ne _ _ h])
  case pacer q =>
    refine .inr ?_
    by_cases h : q = p
    · simp [h, Block.kept, hf]
    · simp [Block.kept, State.port, Ports.get_modify_ne _ _ h]
  all_goals simp [Block.kept, State.bay]

/-- A change of a port's pacer. -/
theorem State.modifyPacer_changes (s : State) (p : Port) (f : Pacer → Pacer) :
    changesOnly [.pacer p] s (s.modifyPort p fun b => b.modifyPacer f) := by
  intro b
  cases b
  case port q =>
    refine .inr ?_
    by_cases h : q = p
    · simp [h, Block.kept, PortBlock.modifyPacer]
    · simp [Block.kept, State.port, Ports.get_modify_ne _ _ h]
  case pacer q =>
    by_cases h : q = p
    · simp [h]
    · exact .inr (by simp [Block.kept, State.port, Ports.get_modify_ne _ _ h])
  all_goals simp [Block.kept, State.bay]

theorem viewPortWork_changes (p : Port) : WorkChanges [.port p] (viewPortWork p) :=
  fun _ s => s.modifyPort_changes p fun _ => rfl

theorem collectNoticesWork_changes (p : Port) : WorkChanges [.pacer p] (collectNoticesWork p) :=
  fun _ s => s.modifyPacer_changes p _

theorem setNoticesWork_changes (p : Port) : WorkChanges [.pacer p] (setNoticesWork p) := by
  intro payload s
  unfold setNoticesWork
  dsimp only
  split
  · exact s.modifyPacer_changes p _
  · exact .refl _ s

/-- A choice of the active bay leaves the bay records (R102). -/
theorem selectBayWork_changes : WorkChanges [.bays] selectBayWork := by
  intro payload s
  unfold selectBayWork
  split
  · exact .refl _ s
  · intro b
    cases b <;> simp [Block.kept, State.port, State.bay]

theorem assignTruckWork_changes : WorkChanges arrivalBlocks assignTruckWork := by
  intro payload s
  have stays := changesOnly.refl arrivalBlocks s
  unfold assignTruckWork
  dsimp only
  split
  · exact stays
  · split
    · exact stays
    split
    · exact stays
    split
    · exact stays
    split
    · exact stays
    · exact s.truckArrives_changes _ _

theorem closeLoadWork_changes (p : Port) : WorkChanges arrivalBlocks (closeLoadWork p) := by
  intro payload s
  have stays := changesOnly.refl arrivalBlocks s
  unfold closeLoadWork
  dsimp only
  split
  · exact stays
  · split
    · exact stays
    · split <;> [exact (s.modifyBay_changes _ _).mono; exact stays]
    all_goals split <;> [exact s.closeLoad_changes _ _; exact stays]

theorem setLoadTargetWork_changes : WorkChanges bayBlocks setLoadTargetWork := by
  intro payload s
  have stays := changesOnly.refl bayBlocks s
  unfold setLoadTargetWork
  dsimp only
  split
  · exact stays
  · split
    · exact stays
    split
    · exact stays
    split
    · exact stays
    · exact s.modifyBay_changes _ _

theorem zeroBucketWork_changes : WorkChanges [.tracker] zeroBucketWork := by
  intro payload s
  unfold zeroBucketWork
  (repeat' split)
  case isFalse => exact s.modifyTracker_changes _
  all_goals exact .refl _ s

theorem cancelZeroWork_changes : WorkChanges [.tracker] cancelZeroWork := fun _ s => s.modifyTracker_changes _

theorem endShiftWork_changes (p : Port) : WorkChanges (logBlocks ++ shiftBlocks ++ pacerBlocks) (endShiftWork p) := by
  intro payload s
  unfold endShiftWork
  split
  · exact s.endShift_changes p
  · exact .refl _ s

/-- A restore takes its record, and clears the fresh flag (R190). -/
theorem restoreSnapshotWork_changes :
    WorkChanges (.clock :: .trim :: .fresh :: bayBlocks ++ shiftBlocks) restoreSnapshotWork := by
  intro payload s
  unfold restoreSnapshotWork
  split
  · split
    · exact .refl _ s
    · intro b
      cases b <;> simp [Block.kept, State.port, State.restore]
  · exact .refl _ s

theorem writeTruckWork_changes : WorkChanges truckBlocks writeTruckWork := by
  intro payload s
  have stays := changesOnly.refl truckBlocks s
  unfold writeTruckWork
  dsimp only
  split
  · exact stays
  split
  · exact stays
  split
  · exact stays
  split
  · split
    · exact stays
    · exact stays
    · exact s.writeTruck_changes _ _ _ _ _ _
  · exact stays

theorem dropTruckWork_changes : WorkChanges truckBlocks dropTruckWork := by
  intro payload s
  unfold dropTruckWork
  dsimp only
  split
  · exact .refl _ s
  · split
    · exact ((s.loseRef_changes _).trans (State.modifySet_changes _ _ _)).mono
    · exact .refl _ s

theorem writeMaterialWork_changes : WorkChanges [.materials] writeMaterialWork := by
  intro payload s
  have stays := changesOnly.refl [.materials] s
  unfold writeMaterialWork
  dsimp only
  split
  · split
    · exact stays
    split
    · exact stays
    split
    · exact stays
    · intro b
      cases b <;> simp [Block.kept, State.port, State.bay]
  · exact stays

theorem setTimeWork_changes : WorkChanges [.clock] setTimeWork := by
  intro payload s b
  cases b <;> simp [Block.kept, setTimeWork, State.port, State.bay]

theorem stagePieceWork_changes : WorkChanges [.staging] stagePieceWork := by
  intro payload s
  unfold stagePieceWork
  split
  · exact .refl _ s
  · intro b
    cases b <;> simp [Block.kept, State.port, State.bay]

theorem stageFillWork_changes : WorkChanges [.staging] stageFillWork := by
  intro payload s b
  cases b <;> simp [Block.kept, stageFillWork, State.port, State.bay]

theorem State.emptyCaptureBins_changes (s : State) : changesOnly [.window] s s.emptyCaptureBins := by
  intro b
  cases b <;> simp [Block.kept, State.port, State.bay]

theorem startCaptureWork_changes : WorkChanges [.window, .tracker] startCaptureWork := by
  intro payload s
  have stays := changesOnly.refl [.window, .tracker] s
  unfold startCaptureWork
  split
  · exact stays
  · split
    · exact stays
    split
    · exact stays
    split
    · exact stays
    · exact s.emptyCaptureBins_changes.trans (State.modifyTracker_changes _ _)

theorem abortCaptureWork_changes : WorkChanges [.window, .tracker] abortCaptureWork := by
  intro payload s
  unfold abortCaptureWork
  split
  · exact s.emptyCaptureBins_changes.trans (State.modifyTracker_changes _ _)
  · exact .refl _ s

theorem installCurveWork_changes : WorkChanges [.curve, .staging] installCurveWork := by
  intro payload s
  unfold installCurveWork
  split
  · exact .refl _ s
  · split
    · exact .refl _ s
    · intro b
      cases b <;> simp [Block.kept, Cal.install, State.port, State.bay]

theorem setProfileWork_changes : WorkChanges [.profile, .staging] setProfileWork := by
  intro payload s
  unfold setProfileWork
  split
  · exact .refl _ s
  · split
    · exact .refl _ s
    · intro b
      cases b <;> simp [Block.kept, Cal.setProfile, State.port, State.bay]

/-! ### The works of items -/

/-- Work on an item that changes these blocks alone. -/
abbrev ItemChanges (bs : List Block) (work : Item → Option (State → State)) : Prop :=
  ∀ i f, work i = some f → ∀ s, changesOnly bs s (f s)

theorem tagEventWork_changes : ItemChanges arrivalBlocks tagEventWork := by
  intro i f h s
  cases i <;> cases h
  exact s.tagEvent_changes _

theorem truckDumpWork_changes : ItemChanges (.tracker :: bayBlocks ++ shiftBlocks ++ pacerBlocks) truckDumpWork := by
  intro i f h s
  cases i <;> cases h
  exact s.truckDump_changes _ _ _ _

theorem pileDumpWork_changes : ItemChanges (shiftBlocks ++ pacerBlocks) pileDumpWork := by
  intro i f h s
  cases i <;> cases h
  exact (s.count_changes _).trans (State.raise_changes _ _)

theorem reweighWork_changes : ItemChanges shiftBlocks reweighWork := by
  intro i f h s
  cases i <;> cases h
  exact s.count_changes _

theorem lostCycleWork_changes : ItemChanges shiftBlocks lostCycleWork := by
  intro i f h s
  cases i <;> cases h
  exact s.count_changes _

theorem residueWork_changes : ItemChanges (bayBlocks ++ shiftBlocks ++ pacerBlocks) residueWork := by
  intro i f h s
  cases i <;> cases h
  exact s.applyResidue_changes _ _

theorem zeroWork_changes : ItemChanges (.trim :: pacerBlocks) zeroWork := by
  intro i f h s
  cases i <;> cases h
  refine changesOnly.trans (bs := [.trim]) ?_ (State.raise_changes _ _)
  split
  · intro b
    cases b <;> simp [Block.kept, State.port, State.bay]
  · exact .refl _ s

/-- A capture outcome leaves the active curve, its generation and the profile (R82 to R84). -/
theorem Cal.capture_kept (c : Cal) (kind : CaptureKind) (bins : Option (Vector CaptureBin 16)) :
    (c.capture kind bins).active = c.active ∧ (c.capture kind bins).generation = c.generation ∧
      (c.capture kind bins).profile = c.profile := by
  cases bins <;> exact ⟨rfl, rfl, rfl⟩

theorem captureWork_changes : ItemChanges (.staging :: .report :: pacerBlocks) captureWork := by
  intro i f h s
  cases i <;> cases h
  refine changesOnly.trans (bs := [.staging, .report]) ?_ (State.raise_changes _ _)
  intro b
  cases b <;> simp [Block.kept, Cal.capture_kept, State.port, State.bay]

end Sys2Proof.Machine
end

section
/-! The statement about writers: each command changes the blocks whose rules it carries out, and no others. -/

namespace Sys2Proof

open Sys2Proof.Machine

/-- The blocks that a command may change, as the statement about writers gives them. What the end of a grant looks at
may change where a BAY notice can follow (R97), or where the fresh flag can clear (R177). -/
def Instr.mayChange (c : Instr) : Block → Bool
  | .power | .resetRecord | .staleness => false
  | .pins => c.writesPins
  | .clock => c.writesClock
  | .link => c.writesLink
  | .tracker => c.writesTracker
  | .window => c.writesWindow
  | .trim => c.writesTrim
  | .curve => c.writesCurve
  | .staging => c.writesStaging
  | .report => decide (c = .capture)
  | .profile => c.writesProfile
  | .bays => c.writesBays
  | .bayLabels => c.writesPacer .cab && c.writesPacer .fleet
  | .bayRecords | .logRecords | .counters | .fresh => c.clearsFresh
  | .trucks => c.writesTrucks
  | .materials => match c with
    | .writeMaterial _ => true
    | _ => false
  | .log => c.writesLog
  | .shift => c.writesShift
  | .supply => match c with
    | .supplyMeasurement _ => true
    | _ => false
  | .openChoice => c.asksConfig
  | .items => c.writesItems
  | .lastServed => c.request.isSome
  | .port p => c.actsOn p
  | .pacer p => c.writesPacer p

end Sys2Proof

namespace Sys2Proof.Machine

/-- Every block that the command may not change is as it was. -/
def leavesOthers (c : Instr) (s t : State) : Prop := ∀ b, c.mayChange b = false → b.kept s t

theorem leavesOthers.refl (c : Instr) (s : State) : leavesOthers c s s := fun b _ => Block.kept.refl b s

theorem leavesOthers.trans {c : Instr} {s t u : State} (h : leavesOthers c s t) (h' : leavesOthers c t u) :
    leavesOthers c s u := fun b hb => (h b hb).trans (h' b hb)

/-- A change of blocks that the command may change. -/
theorem changesOnly.allowed {c : Instr} {bs : List Block} {s t : State} (h : changesOnly bs s t)
    (hb : bs.all c.mayChange = true) : leavesOthers c s t := by
  intro b hn
  refine h.kept fun hm => ?_
  rw [List.all_eq_true.1 hb b hm] at hn
  cases hn

/-! ### The grants (R173 to R177) -/

/-- The end of a grant changes nothing that its command may not. -/
theorem leavesOthers.settle {c : Instr} {s w : State} (h : leavesOthers c s w) : leavesOthers c s (s.settle w) := by
  intro b hb
  have ended := State.settle_changes s w
  refine (h b hb).trans ?_
  cases b
  case fresh => exact State.settle_fresh (h .bayRecords hb) (h .counters hb) (h .logRecords hb)
  case pacer p =>
    refine State.settle_pacer (h .bayLabels ?_) p
    cases p <;> simp_all [Instr.mayChange]
  all_goals exact ended.kept (by simp)

theorem State.dropRequest_changes (s : State) (p : Port) : changesOnly [.port p, .lastServed] s (s.dropRequest p) := by
  refine (s.modifyPort_changes p (f := fun b => { b with queue := b.queue.tail }) fun _ => rfl).trans ?_
  intro b
  cases b <;> simp [Block.kept, State.port, State.bay]

theorem State.readCalen_changes (s : State) (calen : Option Bool) : changesOnly [.pins] s (s.readCalen calen) := by
  intro b
  cases b <;> simp [Block.kept, State.port, State.bay]

/-- A grant of a request changes what its work changes, what its end changes, its port, the last-served port and, when
it reads CALEN, the pins. -/
theorem grantRequest_leavesOthers {c : Instr} {k : ReqKind} {p : Port} {calen : Option Bool} {bs : List Block}
    {work : List Byte → State → State × Reply} (hr : c.request = some (k, p))
    (hc : calen.isSome = true → c.writesPins = true) (hw : WorkChanges bs work) (hb : bs.all c.mayChange = true)
    (s : State) : ∃ t, grantRequest k p calen work s = .next t ∧ leavesOthers c s t := by
  have port : c.mayChange (.port p) = true := by
    cases c <;> simp only [Instr.request, reduceCtorEq, Option.some.injEq, Prod.mk.injEq] at hr <;>
      simp [Instr.mayChange, Instr.actsOn, Instr.request, hr]
  have served : c.mayChange .lastServed = true := by simp [Instr.mayChange, hr]
  have dropped : leavesOthers c s (s.dropRequest p) := (s.dropRequest_changes p).allowed (by simp [port, served])
  have asked : leavesOthers c s ((s.dropRequest p).readCalen calen) := by
    refine dropped.trans ?_
    cases calen with
    | none => exact .refl c _
    | some level => exact (State.readCalen_changes _ _).allowed (by simpa [Instr.mayChange] using hc rfl)
  have answered : ∀ (t : State) (a : Answer), leavesOthers c t (t.answer p a) := fun t a =>
    (t.modifyPort_changes p (f := fun b => { b with answers := b.answers ++ [a] }) fun _ => rfl).allowed
      (by simp [port])
  refine grantRequest_keeps (.refl c s) (fun r a _ _ => asked.settle.trans (answered _ a)) (fun r _ _ _ _ _ => ?_)
  exact (asked.trans ((hw r.payload _).allowed hb)).settle.trans (answered _ _)

/-- A grant of an item changes the items, what its work changes and what its end changes. -/
theorem grantItem_leavesOthers {c : Instr} {bs : List Block} {work : Item → Option (State → State)}
    (hi : c.grantsItem = true) (hw : ItemChanges bs work) (hb : bs.all c.mayChange = true) (s : State) :
    ∃ t, grantItem work s = .next t ∧ leavesOthers c s t := by
  have dropped : changesOnly [.items] s s.dropItem := by
    intro b
    cases b <;> simp [Block.kept, State.port, State.bay]
  refine grantItem_keeps (.refl c s) fun i f _ _ hf => leavesOthers.settle ?_
  exact (dropped.allowed (by simp [Instr.mayChange, Instr.writesItems, hi])).trans ((hw i f hf _).allowed hb)

/-- Each request is granted by one work, which changes blocks that the request may change. -/
theorem exec_request_changes {c : Instr} {k : ReqKind} {p : Port} (h : c.request = some (k, p)) :
    ∃ calen work bs, (∀ s, exec c s = grantRequest k p calen work s) ∧
      (calen.isSome = true → c.writesPins = true) ∧ WorkChanges bs work ∧ bs.all c.mayChange = true := by
  cases c <;> simp only [Instr.request, reduceCtorEq, Option.some.injEq, Prod.mk.injEq] at h <;>
    obtain ⟨rfl, rfl⟩ := h
  case viewLive => exact ⟨_, _, _, fun _ => rfl, id, viewWork_changes _, rfl⟩
  case viewBay => exact ⟨_, _, _, fun _ => rfl, id, viewBayWork_changes, rfl⟩
  case viewTruck => exact ⟨_, _, _, fun _ => rfl, id, viewTruckWork_changes, rfl⟩
  case viewMaterial => exact ⟨_, _, _, fun _ => rfl, id, viewWork_changes _, rfl⟩
  case viewCounters => exact ⟨_, _, _, fun _ => rfl, id, viewWork_changes _, rfl⟩
  case nextRecord p => exact ⟨_, _, _, fun _ => rfl, id, nextRecordWork_changes p, rfl⟩
  case viewNodes => exact ⟨_, _, _, fun _ => rfl, id, viewNodesWork_changes, rfl⟩
  case viewCurve => exact ⟨_, _, _, fun _ => rfl, id, viewCurveWork_changes, rfl⟩
  case viewProfile => exact ⟨_, _, _, fun _ => rfl, id, viewWork_changes _, rfl⟩
  case viewPort p => exact ⟨_, _, _, fun _ => rfl, id, viewPortWork_changes p, by cases p <;> rfl⟩
  case viewPart => exact ⟨_, _, _, fun _ => rfl, id, viewWork_changes _, rfl⟩
  case collectNotices p => exact ⟨_, _, _, fun _ => rfl, id, collectNoticesWork_changes p, by cases p <;> rfl⟩
  case setNotices p => exact ⟨_, _, _, fun _ => rfl, id, setNoticesWork_changes p, by cases p <;> rfl⟩
  case takeSnapshot => exact ⟨_, _, _, fun _ => rfl, id, viewWork_changes _, rfl⟩
  case selectBay => exact ⟨_, _, _, fun _ => rfl, id, selectBayWork_changes, rfl⟩
  case assignTruck => exact ⟨_, _, _, fun _ => rfl, id, assignTruckWork_changes, rfl⟩
  case closeLoad p => exact ⟨_, _, _, fun _ => rfl, id, closeLoadWork_changes p, rfl⟩
  case setLoadTarget => exact ⟨_, _, _, fun _ => rfl, id, setLoadTargetWork_changes, rfl⟩
  case zeroBucket => exact ⟨_, _, _, fun _ => rfl, id, zeroBucketWork_changes, rfl⟩
  case cancelZero => exact ⟨_, _, _, fun _ => rfl, id, cancelZeroWork_changes, rfl⟩
  case endShift p => exact ⟨_, _, _, fun _ => rfl, id, endShiftWork_changes p, rfl⟩
  case restoreSnapshot => exact ⟨_, _, _, fun _ => rfl, id, restoreSnapshotWork_changes, rfl⟩
  case writeTruck => exact ⟨_, _, _, fun _ => rfl, id, writeTruckWork_changes, rfl⟩
  case dropTruck => exact ⟨_, _, _, fun _ => rfl, id, dropTruckWork_changes, rfl⟩
  case writeMaterial => exact ⟨_, _, _, fun _ => rfl, id, writeMaterialWork_changes, rfl⟩
  case setTime => exact ⟨_, _, _, fun _ => rfl, id, setTimeWork_changes, rfl⟩
  case nodeAccess => exact ⟨_, _, _, fun _ => rfl, id, nodeAccessWork_changes, rfl⟩
  case nodeResult => exact ⟨_, _, _, fun _ => rfl, id, nodeResultWork_changes, rfl⟩
  case stagePiece => exact ⟨_, _, _, fun _ => rfl, id, stagePieceWork_changes, rfl⟩
  case stageFill => exact ⟨_, _, _, fun _ => rfl, id, stageFillWork_changes, rfl⟩
  case startCapture => exact ⟨_, _, _, fun _ => rfl, id, startCaptureWork_changes, rfl⟩
  case abortCapture => exact ⟨_, _, _, fun _ => rfl, id, abortCaptureWork_changes, rfl⟩
  case installCurve => exact ⟨_, _, _, fun _ => rfl, id, installCurveWork_changes, rfl⟩
  case setProfile => exact ⟨_, _, _, fun _ => rfl, id, setProfileWork_changes, rfl⟩

/-- Each command that grants an item does so by one work, which changes blocks that the command may change, and none of
the items behind the one granted. -/
theorem exec_item_changes {c : Instr} (h : c.grantsItem = true) :
    ∃ work bs, (∀ s, exec c s = grantItem work s) ∧ ItemChanges bs work ∧ bs.all c.mayChange = true ∧
      .items ∉ bs := by
  cases c <;> simp only [Instr.grantsItem, Bool.false_eq_true] at h
  case tagEvent => exact ⟨_, _, fun _ => rfl, tagEventWork_changes, rfl, by simp⟩
  case truckDump => exact ⟨_, _, fun _ => rfl, truckDumpWork_changes, rfl, by simp⟩
  case pileDump => exact ⟨_, _, fun _ => rfl, pileDumpWork_changes, rfl, by simp⟩
  case reweigh => exact ⟨_, _, fun _ => rfl, reweighWork_changes, rfl, by simp⟩
  case lostCycle => exact ⟨_, _, fun _ => rfl, lostCycleWork_changes, rfl, by simp⟩
  case residue => exact ⟨_, _, fun _ => rfl, residueWork_changes, rfl, by simp⟩
  case zero => exact ⟨_, _, fun _ => rfl, zeroWork_changes, rfl, by simp⟩
  case capture => exact ⟨_, _, fun _ => rfl, captureWork_changes, rfl, by simp⟩

/-! ### The sensor link (chapters 1 and 2) -/

/-- A change of the link, and of the ports in their pacers alone. -/
theorem changesOnly.of_link {s t : State} (h : t = { s with link := t.link, ports := t.ports }) (hp : samePorts s t) :
    changesOnly (.link :: pacerBlocks) s t := by
  intro b
  cases b
  case port p => exact .inr (hp p)
  case pacer p => cases p <;> simp
  all_goals rw [h]; simp [Block.kept, State.bay]

theorem samePorts.of_ports {s t : State} (h : t.ports = s.ports) : samePorts s t :=
  fun p => by rw [State.port_of_ports h]

theorem samePorts.trans {s t u : State} (h : samePorts s t) (h' : samePorts t u) : samePorts s u :=
  fun p => by rw [h' p, h p]

theorem State.overloadCheck_samePorts (s : State) (net : Nat) (d : Side) : samePorts s (s.overloadCheck net d) := by
  have noted : samePorts s ((s.modifyTracker fun t => { t with overload := t.overload.modify d fun _ => true }).raise
      (.overload d)) := fun p => State.port_raise _ _ p
  unfold State.overloadCheck
  dsimp only
  split
  case h_4 => exact fun _ => rfl
  case h_5 => exact fun _ => rfl
  all_goals split <;> [exact noted; exact fun _ => rfl]

theorem State.enterCarry_samePorts (s : State) : samePorts s s.enterCarry := by
  unfold State.enterCarry
  dsimp only
  split
  · exact fun _ => rfl
  · exact (State.overloadCheck_samePorts (s.modifyTracker _) _ .left).trans (State.overloadCheck_samePorts _ _ .right)

/-- Of the boom transitions only the end of a weighing touches the ports (R32). -/
theorem State.boomTransition_ports (s : State) (boom : Int) :
    (s.boomTransition boom).ports = s.ports ∨ (s.boomTransition boom).ports = s.enterCarry.ports := by
  unfold State.boomTransition
  dsimp only
  split
  case h_4 =>
    split
    · exact .inl (by simp)
    split
    · exact .inl rfl
    split
    · exact .inl rfl
    unfold State.endWindow
    split
    · exact .inl s.endZeroing_ports
    · exact .inr rfl
  all_goals (repeat' split) <;> exact .inl (by simp [State.enterDig])

/-- A record changes no more of the ports than the pacers. -/
theorem State.changeCycle_samePorts (s : State) (r : SweepRecord) : samePorts s (s.changeCycle r) := by
  unfold State.changeCycle
  dsimp only
  split
  · split <;> exact .of_ports (by simp)
  split
  · split <;> exact .of_ports (by simp)
  split
  · exact .of_ports (by simp)
  · rcases s.boomTransition_ports r.boom.number with h | h
    · exact .of_ports h
    · exact s.enterCarry_samePorts.trans (.of_ports h)

/-- What the end of a sweep may change. -/
abbrev sweepBlocks : List Block := .link :: .tracker :: .window :: .items :: .openChoice :: pacerBlocks

theorem State.endSweep_changes (s : State) (sw : Sweep) : changesOnly sweepBlocks s (s.endSweep sw) := by
  have ports : samePorts s (s.endSweep sw) := by
    obtain ⟨k, n, ended⟩ := s.endSweep_eq sw
    obtain ⟨v, _, weighed, same⟩ := s.sweepOver.takeRecord_weighed rfl (sweepRecord s.link sw)
    have taken := (samePorts.of_ports (s := s) same).trans (v.changeCycle_samePorts (sweepRecord s.link sw))
    exact taken.trans (.of_ports (by rw [ended]; exact weighed.ports))
  obtain ⟨power, pins, clock, resetRecord, _, cal, bays, trucks, materials, log, shift, supply, _, trim, fresh,
    served⟩ := s.endSweep_keeps sw
  intro b
  cases b
  case port p => exact .inr (ports p)
  case pacer p => cases p <;> simp
  all_goals simp_all [Block.kept, State.bay]

/-- The start of a sweep and its transactions change the link, and raise notices; after the last transaction, the sweep
ends (R11). -/
theorem exec_transaction_cases {c : Instr} (hc : c.writesLink = true) (hq : c.request = none) (s : State) :
    ∃ u, changesOnly (.link :: pacerBlocks) s u ∧
      (exec c s = .next u ∨ c.endsSweep = true ∧ ∃ sw, exec c s = .next (u.endSweep sw)) := by
  have idle : ∀ {i : Instr}, exec i s = .next s → ∃ u, changesOnly (.link :: pacerBlocks) s u ∧
      (exec i s = .next u ∨ i.endsSweep = true ∧ ∃ sw, exec i s = .next (u.endSweep sw)) :=
    fun h => ⟨s, .refl _ s, .inl h⟩
  have served : ∀ sw i a seen x, ∃ u, changesOnly (.link :: pacerBlocks) s u ∧
      s.serveEnds sw i a seen x = u.endSweep sw := by
    intro sw i a seen x
    have heard : changesOnly [.link] s (s.hears a.address seen) := by
      cases seen with
      | none => exact .refl _ s
      | some type => exact s.modifyLink_changes _
    exact ⟨_, ((heard.trans (State.modifyLink_changes _ _)).trans (State.raise_changes _ .node)).mono,
      s.serveEnds_hears sw i a seen x⟩
  cases c <;> simp only [Instr.writesLink, Instr.endsSweep, Instr.request, Bool.or_false, Bool.false_eq_true,
    reduceCtorEq] at hc hq
  case sweepStart =>
    by_cases hs : s.power = .running ∧ s.link.sweep = none
    · have rebound := s.rebind_rebound s.cal.profile.binding
      exact ⟨_, ((changesOnly.of_link rebound.frame rebound.ports).trans (State.modifyLink_changes _ _)).mono,
        .inl (exec_sweepStart hs.1 hs.2)⟩
    · exact idle (if_neg hs)
  case readValue role reply =>
    by_cases ho : s.power = .running ∧ ∃ sw ∈ s.link.sweep,
        sw.toRead.head? = some role ∧ (s.link.roles.get role).bound.isSome = true
    · obtain ⟨hp, sw, hs, hhead, hbound⟩ := ho
      obtain ⟨rest, hr⟩ := List.head?_eq_some_iff.1 hhead
      obtain ⟨addr, hb⟩ := Option.isSome_iff_exists.1 hbound
      have ended := s.readEnds_ended sw rest role addr reply
      refine ⟨_, changesOnly.of_link ended.frame fun p => ?_, .inl (exec_readValue hp hs hr hb reply)⟩
      rw [ended.port p]
      split <;> rfl
    · exact idle (exec_readValue_idle ho reply)
  case probe reply =>
    by_cases ho : s.power = .running ∧ ∃ sw ∈ s.link.sweep, sw.toRead = [] ∧ sw.slot = none
    · obtain ⟨hp, sw, hs, hr, hi⟩ := ho
      have probed : ∀ heard, changesOnly [.link] s (s.probed heard) := fun _ => s.modifyLink_changes _
      rw [exec_probe hp hs hr hi reply, State.probeEnds_eq]
      split
      · exact ⟨_, ((probed _).trans (State.modifyLink_changes _ _)).mono, .inl rfl⟩
      · exact ⟨_, (probed _).mono, .inr ⟨rfl, sw, rfl⟩⟩
    · exact idle (exec_probe_idle ho reply)
  case nodeRead reply =>
    by_cases ho : ∃ sw i a, s.power = .running ∧ s.serving = some (sw, i, a) ∧ a.dir = .read
    · obtain ⟨sw, i, a, hp, hv, hd⟩ := ho
      obtain ⟨u, hu, ends⟩ := served sw i a _ _
      exact ⟨u, hu, .inr ⟨rfl, sw, (exec_nodeRead hp hv hd reply).trans (congrArg _ ends)⟩⟩
    · exact idle (exec_nodeRead_idle (fun sw i a hp hv hd => ho ⟨sw, i, a, hp, hv, hd⟩) reply)
  case nodeWrite reply =>
    by_cases ho : ∃ sw i a, s.power = .running ∧ s.serving = some (sw, i, a) ∧ a.dir = .write
    · obtain ⟨sw, i, a, hp, hv, hd⟩ := ho
      obtain ⟨u, hu, ends⟩ := served sw i a _ _
      exact ⟨u, hu, .inr ⟨rfl, sw, (exec_nodeWrite hp hv hd reply).trans (congrArg _ ends)⟩⟩
    · exact idle (exec_nodeWrite_idle (fun sw i a hp hv hd => ho ⟨sw, i, a, hp, hv, hd⟩) reply)

/-- What the end of a sweep changes, every command that ends one may change. -/
theorem sweepBlocks_allowed {c : Instr} (h : c.endsSweep = true) : sweepBlocks.all c.mayChange = true := by
  cases c <;> simp only [Instr.endsSweep, Bool.false_eq_true] at h <;> rfl

theorem exec_transaction_leavesOthers {c : Instr} (hc : c.writesLink = true) (hq : c.request = none) (s : State) :
    ∃ t, exec c s = .next t ∧ leavesOthers c s t := by
  have link : (Block.link :: pacerBlocks).all c.mayChange = true := by
    cases c <;> simp only [Instr.writesLink, Instr.endsSweep, Instr.request, Bool.or_false, Bool.false_eq_true,
      reduceCtorEq] at hc hq <;> rfl
  obtain ⟨u, hu, hx | ⟨he, sw, hx⟩⟩ := exec_transaction_cases hc hq s
  · exact ⟨u, hx, hu.allowed link⟩
  · exact ⟨_, hx, (hu.allowed link).trans ((u.endSweep_changes sw).allowed (sweepBlocks_allowed he))⟩

/-! ### The ports (chapter 9) -/

@[simp] theorem PortBlock.receive_pacer (b : PortBlock) (p : Port) (n : Nat) : (b.receive p n).pacer = b.pacer := by
  cases p <;> rfl

@[simp] theorem PortBlock.breakFrame_pacer (b : PortBlock) : b.breakFrame.pacer = b.pacer := by
  unfold PortBlock.breakFrame
  split <;> rfl

@[simp] theorem PortBlock.breakAt_pacer (b : PortBlock) (p : Port) (k : Nat) : (b.breakAt p k).pacer = b.pacer := by
  unfold PortBlock.breakAt
  split
  · rfl
  · split <;> simp

@[simp] theorem PortBlock.refuseArrival_pacer (b : PortBlock) (a : Answer) : (b.refuseArrival a).pacer = b.pacer := by
  unfold PortBlock.refuseArrival
  split <;> rfl

@[simp] theorem PortBlock.arrive_pacer (b : PortBlock) (f : Frame) : (b.arrive f).pacer = b.pacer := by
  unfold PortBlock.arrive
  (repeat' split) <;> simp

@[simp] theorem PortBlock.complete_pacer (b : PortBlock) (p : Port) (f : Frame) : (b.complete p f).pacer = b.pacer := by
  unfold PortBlock.complete
  split
  · rfl
  · dsimp only
    split <;> simp

/-! ### The supply and the clock (chapter 8) -/

theorem State.modifyAcc_changes (s : State) (f : Accumulator → Accumulator) :
    changesOnly [.window] s (s.modifyAcc f) := by
  intro b
  cases b <;> simp [Block.kept, State.port, State.bay]

theorem State.abortCapture_changes (s : State) : changesOnly [.window, .tracker, .items] s s.abortCapture := by
  have handed : ∀ (t : State) (i : Item), changesOnly [.items] t (t.hand i) := by
    intro t i b
    cases b <;> simp [Block.kept, State.port, State.bay]
  unfold State.abortCapture
  split
  · exact .refl _ s
  · exact ((s.emptyCaptureBins_changes.trans (State.modifyTracker_changes _ _)).trans (handed _ _)).mono

/-- An entry to LOW abandons the window and aborts a capture (R163). -/
theorem State.supplyLow_changes (s : State) : changesOnly [.window, .tracker, .items] s s.supplyLow := by
  unfold State.supplyLow
  split
  · exact ((s.modifyAcc_changes _).trans (State.abortCapture_changes _)).mono
  · exact s.abortCapture_changes

theorem State.supplyChanged_changes (s : State) (pre : SupplyState) :
    changesOnly (.window :: .tracker :: .items :: pacerBlocks) s (s.supplyChanged pre) := by
  unfold State.supplyChanged
  split
  · exact .refl _ s
  · split
    · exact ((s.raise_changes _).trans (State.supplyLow_changes _)).mono
    · exact (s.raise_changes _).mono

/-- A measurement moves the monitor and the shift's minimum, and not the shift counters (R155, R161). -/
theorem State.measured_changes (s : State) (v : Nat) : changesOnly [.supply, .shift] s (s.measured v) := by
  intro b
  cases b <;> simp [Block.kept, State.measured, State.port, State.bay]

/-! ### The commands -/

/-- A command that is no reset leaves every block that it may not change. -/
theorem exec_leavesOthers {c : Instr} (hr : c.resets = false) (s : State) :
    ∃ t, exec c s = .next t ∧ leavesOthers c s t := by
  by_cases hq : c.request = none
  case neg =>
    obtain ⟨⟨k, p⟩, hkp⟩ := Option.ne_none_iff_exists'.1 hq
    obtain ⟨calen, work, bs, hexec, hc, hw, hb⟩ := exec_request_changes hkp
    rw [hexec]
    exact grantRequest_leavesOthers hkp hc hw hb s
  by_cases hi : c.grantsItem = true
  case pos =>
    obtain ⟨work, bs, hexec, hw, hb, _⟩ := exec_item_changes hi
    rw [hexec]
    exact grantItem_leavesOthers hi hw hb s
  by_cases hl : c.writesLink = true
  case pos => exact exec_transaction_leavesOthers hl hq s
  have idle : ∃ t, Host.Outcome.next (φ := Fault) (ρ := Refusal) s = .next t ∧ leavesOthers c s t :=
    ⟨s, rfl, .refl c s⟩
  have moves : ∀ p f, (∀ b : PortBlock, (f b).pacer = b.pacer) → c.mayChange (.port p) = true →
      ∃ t, Host.Outcome.next (φ := Fault) (ρ := Refusal) (s.modifyPort p f) = .next t ∧ leavesOthers c s t :=
    fun p f hf hm => ⟨_, rfl, (s.modifyPort_changes p hf).allowed (by simp [hm])⟩
  cases c <;> simp only [Instr.resets, Instr.request, Instr.grantsItem, Instr.writesLink, Instr.endsSweep,
    reduceCtorEq, not_true_eq_false, Bool.or_true, Bool.true_or] at hr hq hi hl <;>
    simp only [exec]
  case frameArrival p f =>
    unfold execFrameArrival
    split
    · exact moves p _ (fun b => by split <;> simp) (by simp [Instr.mayChange, Instr.actsOn])
    · exact idle
  case frameDiscard p cause =>
    unfold execFrameDiscard
    split
    · exact moves p _ (fun b => by cases cause <;> simp) (by simp [Instr.mayChange, Instr.actsOn])
    · exact idle
  case cabCsNRise =>
    have raised : ∀ t : State, changesOnly [.pins] t { t with pins := { t.pins with csLow := false } } := by
      intro t b
      cases b <;> simp [Block.kept, State.port, State.bay]
    unfold execCabCsNRise
    split
    · exact ⟨_, rfl, ((s.modifyPort_changes .cab PortBlock.breakFrame_pacer).trans (raised _)).allowed rfl⟩
    · exact ⟨_, rfl, (raised s).allowed rfl⟩
  case cabCsNFall =>
    refine ⟨_, rfl, changesOnly.allowed (bs := [.pins]) (fun b => ?_) rfl⟩
    cases b <;> simp [Block.kept, State.port, State.bay]
  case frameGapTimeout =>
    unfold execFrameGapTimeout
    split
    · exact moves .fleet _ PortBlock.breakFrame_pacer rfl
    · exact idle
  case answerSent x =>
    obtain ⟨p, n⟩ := x
    unfold execAnswerSent
    dsimp only
    split
    · split
      · exact moves .cab _ (fun _ => rfl) rfl
      · split <;> [exact moves .cab _ (fun _ => rfl) rfl; exact idle]
      · split <;> [exact moves .fleet _ (fun _ => rfl) rfl; exact idle]
    · exact idle
  case syncByteReceived p =>
    unfold execSyncByteReceived
    split
    · split
      · exact moves p _ (fun b => by simp) (by simp [Instr.mayChange, Instr.actsOn])
      · exact idle
    · exact idle
  case paceTimerExpiry p =>
    unfold execPaceTimerExpiry
    split
    · exact ⟨_, rfl, (s.modifyPacer_changes p _).allowed (by cases p <;> rfl)⟩
    · exact idle
  case supplyMeasurement v =>
    unfold execSupplyMeasurement
    split
    · exact ⟨_, rfl, ((s.measured_changes _).trans (State.supplyChanged_changes _ _)).allowed rfl⟩
    · exact idle
  case clockTick =>
    have ticked : ∀ x : Tracker, changesOnly [.clock, .tracker] s { s with clock := s.clock + 1, tracker := x } := by
      intro x b
      cases b <;> simp [Block.kept, State.port, State.bay]
    unfold execClockTick
    split
    · exact ⟨_, rfl, (ticked _).allowed rfl⟩
    · exact ⟨_, rfl, (ticked _).allowed rfl⟩
    · exact idle
    · exact idle

theorem leavesOthers.of_exec {c : Instr} {s t : State} (hr : c.resets = false) (hx : exec c s = .next t) :
    leavesOthers c s t := by
  obtain ⟨u, hu, others⟩ := exec_leavesOthers hr s
  rw [hx] at hu
  cases hu
  exact others

/-- Settles O47: each command makes one change of listed blocks after another, and the tables allow what the lists
name. -/
theorem eachBlockHasItsWriters : Obligations.EachBlockHasItsWriters := by
  intro c s t hr hx
  have others := leavesOthers.of_exec hr hx
  have report : c ≠ .capture → c.mayChange .report = false := fun h => decide_eq_false h
  have materials : (∀ p, c ≠ .writeMaterial p) → c.mayChange .materials = false := by
    intro h
    cases c
    case writeMaterial p => exact absurd rfl (h p)
    all_goals rfl
  have supply : (∀ v, c ≠ .supplyMeasurement v) → c.mayChange .supply = false := by
    intro h
    cases c
    case supplyMeasurement v => exact absurd rfl (h v)
    all_goals rfl
  have served : c.request = none → c.mayChange .lastServed = false := fun h => by simp [Instr.mayChange, h]
  exact ⟨others .power rfl, others .resetRecord rfl, others .pins, others .clock, others .link, others .tracker,
    others .window, others .trim, others .curve, others .staging, others .report ∘ report, others .profile,
    others .bays, others .trucks, others .materials ∘ materials, others .log, others .shift,
    others .supply ∘ supply, others .openChoice, others .items, others .lastServed ∘ served, others .fresh,
    others .staleness rfl, fun p => others (.port p), fun p => others (.pacer p)⟩

end Sys2Proof.Machine
end

section
/-! Every step keeps the curves' spans, the generation and the zero trim in range (R42, R66, R74, R75). -/

namespace Sys2Proof.Machine

/-! ### The curves (R75 to R79, R82, R83, R88, R92) -/

theorem CurveLaw.congr {s t : State} (h : CurveLaw s) (hc : Block.curve.kept s t) (hs : Block.staging.kept s t) :
    CurveLaw t := by
  obtain ⟨active, generation⟩ := hc
  change t.cal.staging = s.cal.staging at hs
  unfold CurveLaw
  rw [active, generation, hs]
  exact h

theorem CurveLaw.of_cal {s t : State} (h : CurveLaw s) (hc : t.cal = s.cal) : CurveLaw t :=
  h.congr (by simp [Block.kept, hc]) (by simp [Block.kept, hc])

/-- A span in the range of R74. -/
abbrev spanInRange (n : Nat) : Prop := 1 ≤ n ∧ n ≤ 65535

theorem CurveLaw.active_span {s : State} (h : CurveLaw s) (i : Fin 16) : spanInRange s.cal.active[i].span := by
  obtain ⟨active, _⟩ := h
  exact active i

theorem CurveLaw.staging_span {s : State} (h : CurveLaw s) (i : Fin 16) : spanInRange s.cal.staging[i].span := by
  obtain ⟨_, staging, _⟩ := h
  exact staging i

/-- A staging curve with its spans in range keeps the law, behind the same active curve. -/
theorem CurveLaw.staged {s : State} (h : CurveLaw s) {f : Cal → Cal} (ha : (f s.cal).active = s.cal.active)
    (hg : (f s.cal).generation = s.cal.generation) (hs : ∀ i : Fin 16, spanInRange (f s.cal).staging[i].span) :
    CurveLaw (s.modifyCal f) := by
  obtain ⟨hactive, _, hgeneration, hdefault⟩ := h
  unfold CurveLaw
  rw [State.modifyCal_cal, ha, hg]
  exact ⟨hactive, hs, hgeneration, hdefault⟩

/-- No check fails when none is answered (R179). -/
theorem firstFailing_eq_none {checks : List Bool} : firstFailing checks = none ↔ ∀ c ∈ checks, c = true := by
  simp [firstFailing]

theorem pieceSpan_inRange {payload : List Byte} (h : firstFailing (pieceChecks payload) = none) {j : Nat} (hj : j < 4) :
    spanInRange (pieceSpan payload j) := by
  have passed : inRange 1 65535 (pieceSpan payload j) = true := by
    refine firstFailing_eq_none.1 h _ (List.mem_cons_of_mem _ (List.mem_flatMap.2 ⟨j, List.mem_range.2 hj, ?_⟩))
    simp [pieceBinChecks]
  simp only [inRange, Bool.and_eq_true, decide_eq_true_eq] at passed
  omega

theorem CurveLaw.stagePieceWork {s : State} (h : CurveLaw s) (payload : List Byte) :
    CurveLaw (stagePieceWork payload s).1 := by
  unfold Machine.stagePieceWork
  split
  · exact h
  · rename_i passed
    refine h.staged rfl rfl fun i => ?_
    simp only [stagePiece, Fin.getElem_fin, Vector.getElem_ofFn]
    split
    · exact pieceSpan_inRange passed (Nat.mod_lt _ (by decide))
    · exact h.staging_span i

/-- A staging bin without a span takes the active curve's (R79). -/
theorem CurveLaw.stageFillWork {s : State} (h : CurveLaw s) (payload : List Byte) :
    CurveLaw (stageFillWork payload s).1 := by
  refine h.staged rfl rfl fun i => ?_
  simp only [Fin.getElem_fin, Vector.getElem_ofFn, StagingBin.fill]
  split
  · exact h.staging_span i
  · exact h.active_span i

theorem spanOf_inRange (mass : Nat) (rise : Int) : spanInRange (spanOf mass rise) := by
  unfold spanInRange spanOf clamp
  split
  · decide
  · split
    · decide
    · omega

theorem judgeBin_span (kind : CaptureKind) (b : CaptureBin) {staging : StagingBin} (active : CurveBin)
    (h : spanInRange staging.span) : spanInRange (judgeBin kind b staging active).1.span := by
  unfold judgeBin
  split
  · exact h
  · dsimp only
    split
    · exact h
    · split
      · exact spanOf_inRange _ _
      · exact h

/-- A capture outcome stages spans by the clamp of R83. -/
theorem CurveLaw.capture {s : State} (h : CurveLaw s) (kind : CaptureKind) (bins : Option (Vector CaptureBin 16)) :
    CurveLaw (s.modifyCal fun c => c.capture kind bins) := by
  obtain ⟨active, generation, _⟩ := s.cal.capture_kept kind bins
  refine h.staged active generation fun i => ?_
  cases bins with
  | none => exact h.staging_span i
  | some bs =>
    simp only [Cal.capture, Fin.getElem_fin, Vector.getElem_ofFn]
    exact judgeBin_span kind _ _ (h.staging_span i)

/-- An installation makes the staging curve the active one under a generation other than 0 (R88). -/
theorem CurveLaw.installCurveWork {s : State} (h : CurveLaw s) (payload : List Byte) :
    CurveLaw (installCurveWork payload s).1 := by
  unfold Machine.installCurveWork
  split
  · exact h
  · split
    · exact h
    · have next : spanInRange (nextGeneration s.cal.generation) := by
        obtain ⟨_, _, hgeneration, _⟩ := h
        unfold spanInRange nextGeneration
        split <;> omega
      refine ⟨fun i => ?_, fun i => ?_, next.2, fun zero => ?_⟩
      · simpa [Cal.install] using h.staging_span i
      · simpa [Cal.install, StagingBin.unflagged] using h.staging_span i
      · exact absurd zero (Nat.one_le_iff_ne_zero.1 next.1)

/-- A new profile clears flags of the staging curve at most (R92). -/
theorem CurveLaw.setProfileWork {s : State} (h : CurveLaw s) (payload : List Byte) :
    CurveLaw (setProfileWork payload s).1 := by
  unfold Machine.setProfileWork
  split
  · exact h
  · split
    · exact h
    · refine h.staged rfl rfl fun i => ?_
      simp only [Cal.setProfile]
      split
      · exact h.staging_span i
      · simpa [StagingBin.unflagged] using h.staging_span i

theorem CurveLaw.grantRequest {s : State} (h : CurveLaw s) (k : ReqKind) (p : Port) (calen : Option Bool)
    {work : List Byte → State → State × Reply} (hw : ∀ payload u, CurveLaw u → CurveLaw (work payload u).1) :
    ∃ t, grantRequest k p calen work s = .next t ∧ CurveLaw t := by
  have asked : CurveLaw ((s.dropRequest p).readCalen calen) := h.of_cal (by simp)
  refine grantRequest_keeps h (fun r a _ _ => asked.of_cal (by simp)) (fun r _ _ _ _ _ => ?_)
  exact (hw r.payload _ asked).of_cal (by simp)

/-- Every command but a reset keeps the law: those outside the two tables leave both curves. -/
theorem CurveLaw.exec {c : Instr} {s : State} (h : CurveLaw s) (hr : c.resets = false) :
    ∃ t, exec c s = .next t ∧ CurveLaw t := by
  by_cases hw : c.writesCurve = false ∧ c.writesStaging = false
  · obtain ⟨hcurve, hstaging⟩ := hw
    obtain ⟨t, ht, others⟩ := exec_leavesOthers hr s
    exact ⟨t, ht, h.congr (others .curve hcurve) (others .staging hstaging)⟩
  cases c <;> simp only [Instr.writesCurve, Instr.writesStaging, Bool.true_eq_false, and_self, and_false,
    not_true_eq_false] at hw
  case capture =>
    have dropped : CurveLaw s.dropItem := h
    refine grantItem_keeps h fun i f _ _ hf => ?_
    cases i with
    | capture kind bins =>
      cases hf
      exact (dropped.capture kind bins).of_cal (by simp)
    | _ => cases hf
  case stagePiece => exact h.grantRequest _ _ _ fun payload u hu => hu.stagePieceWork payload
  case stageFill => exact h.grantRequest _ _ _ fun payload u hu => hu.stageFillWork payload
  case installCurve => exact h.grantRequest _ _ _ fun payload u hu => hu.installCurveWork payload
  case setProfile => exact h.grantRequest _ _ _ fun payload u hu => hu.setProfileWork payload

/-! ### The zero outcomes that wait (R42) -/

/-- Every zero outcome that waits as accepted is within 1,500 kg either way. -/
abbrev zerosInRange (s : State) : Prop := ∀ i ∈ s.arb.items, i.zeroInRange = true

theorem zerosInRange.congr {s t : State} (h : zerosInRange s) (hi : Block.items.kept s t) : zerosInRange t := by
  change t.arb.items = s.arb.items at hi
  unfold zerosInRange
  rw [hi]
  exact h

theorem zerosInRange.hand {s : State} (h : zerosInRange s) {i : Item} (hi : i.zeroInRange = true) :
    zerosInRange (s.hand i) := by
  intro j hj
  rcases List.mem_append.1 hj with hj | hj
  · exact h j hj
  · rw [List.mem_singleton.1 hj]
    exact hi

/-- The verdict of a zero result is the range of the law (R42). -/
theorem Accumulator.zeroResult_inRange (a : Accumulator) : (Item.zero a.zeroResult).zeroInRange = true :=
  Bool.not_or_self _

theorem zerosInRange.abortCapture {s : State} (h : zerosInRange s) : zerosInRange s.abortCapture := by
  unfold State.abortCapture
  split
  · exact h
  · exact zerosInRange.hand h rfl

theorem zerosInRange.discardCapture {s : State} (h : zerosInRange s) : zerosInRange s.discardCapture := by
  rw [State.discardCapture_eq]
  exact h

theorem zerosInRange.forcedIdle {s : State} (h : zerosInRange s) : zerosInRange s.forcedIdle := by
  unfold State.forcedIdle
  dsimp only
  split
  · exact zerosInRange.hand h.discardCapture rfl
  · exact h.discardCapture

theorem zerosInRange.dump {s : State} (h : zerosInRange s) (r : SweepRecord) : zerosInRange (s.dump r) := by
  unfold State.dump
  dsimp only
  split
  · split <;> exact zerosInRange.hand h.discardCapture rfl
  · exact zerosInRange.hand h.discardCapture rfl

theorem zerosInRange.endCaptureLift {s : State} (h : zerosInRange s) : zerosInRange s.endCaptureLift := by
  unfold State.endCaptureLift
  split
  · exact h
  · exact zerosInRange.hand h rfl

/-- The end of a zeroing lift hands the one zero outcome (R42). -/
theorem zerosInRange.endWindow {s : State} (h : zerosInRange s) : zerosInRange s.endWindow := by
  unfold State.endWindow State.endZeroing
  split
  · split
    · exact zerosInRange.hand h s.weigh.acc.zeroResult_inRange
    · exact h
  · unfold State.enterCarry
    dsimp only
    split
    · exact h
    · exact h.congr (by simp [Block.kept])

theorem zerosInRange.endCheck {s : State} (h : zerosInRange s) : zerosInRange s.endCheck := by
  unfold State.endCheck
  dsimp only
  split
  · split
    · exact zerosInRange.hand h rfl
    · exact h
  · exact h

theorem zerosInRange.startReweigh {s : State} (h : zerosInRange s) : zerosInRange s.startReweigh := by
  unfold State.startReweigh
  dsimp only
  split
  · exact zerosInRange.hand h rfl
  · exact h

theorem zerosInRange.boomTransition {s : State} (h : zerosInRange s) (boom : Int) :
    zerosInRange (s.boomTransition boom) := by
  unfold State.boomTransition
  dsimp only
  split
  case h_1 => split <;> exact h
  case h_2 => split <;> exact h
  case h_3 =>
    split
    · exact h
    · split
      · exact h.discardCapture
      · exact h
  case h_4 =>
    split
    · exact h
    split
    · exact h
    split
    · exact h
    · exact h.endWindow
  case h_5 => split <;> [exact h.startReweigh; exact h]
  case h_6 =>
    split
    · exact h
    · split
      · split <;> exact h
      · exact h
  case h_7 =>
    split
    · exact h.endCheck
    · split <;> exact h

theorem zerosInRange.changeCycle {s : State} (h : zerosInRange s) (r : SweepRecord) :
    zerosInRange (s.changeCycle r) := by
  unfold State.changeCycle
  dsimp only
  split
  · split <;> [exact h; exact h.forcedIdle]
  split
  · split <;> [exact h; exact h.dump r]
  split
  · exact h.endCaptureLift
  · exact h.boomTransition _

theorem zerosInRange.takeRecord {s : State} (h : zerosInRange s) (r : SweepRecord) : zerosInRange (s.takeRecord r) := by
  have steps : ∀ t : State, zerosInRange t → zerosInRange (t.takeSteps r) := fun t ht =>
    (ht.changeCycle r).congr (t.takeSteps_items r)
  have asked : zerosInRange { s with openChoice := s.openChoice + 1 } := h
  rcases s.takeRecord_cases r with ⟨_, he⟩ | ⟨_, he⟩ | ⟨_, he⟩ <;> rw [he]
  · exact steps s h
  · exact steps _ asked.abortCapture
  · exact (steps _ asked).abortCapture

/-- Behind the items that wait, a sweep hands its record's outcomes and its tag events. -/
theorem zerosInRange.endSweep {s : State} (h : zerosInRange s) (sw : Sweep) : zerosInRange (s.endSweep sw) := by
  have none : zerosInRange s.sweepOver := by rintro i ⟨⟩
  have taken := none.takeRecord (sweepRecord s.link sw)
  have tags : ∀ i ∈ sw.tags.map Item.tag, i.zeroInRange = true := by
    intro i hi
    obtain ⟨e, _, rfl⟩ := List.mem_map.1 hi
    rfl
  obtain ⟨k, n, ended⟩ := s.endSweep_eq sw
  rw [ended]
  intro i hi
  simp only [List.mem_append] at hi
  rcases hi with ((hi | hi) | hi) | hi
  · exact h i hi
  · exact tags i (List.mem_of_mem_take hi)
  · exact taken i hi
  · exact tags i (List.mem_of_mem_drop hi)

theorem zerosInRange.transaction {c : Instr} {s : State} (h : zerosInRange s) (hc : c.writesLink = true)
    (hq : c.request = none) : ∃ t, exec c s = .next t ∧ zerosInRange t := by
  obtain ⟨u, hu, hx | ⟨_, sw, hx⟩⟩ := exec_transaction_cases hc hq s
  · exact ⟨u, hx, h.congr (hu.kept (by simp))⟩
  · exact ⟨_, hx, (h.congr (hu.kept (by simp))).endSweep sw⟩

theorem zerosInRange.supplyMeasurement {s : State} (h : zerosInRange s) (v : Nat) :
    ∃ t, execSupplyMeasurement v s = .next t ∧ zerosInRange t := by
  have measured : zerosInRange (s.measured (min v 400)) := h
  have raised : zerosInRange ((s.measured (min v 400)).raise .supply) := measured.congr (by simp [Block.kept])
  unfold execSupplyMeasurement
  split
  · refine ⟨_, rfl, ?_⟩
    unfold State.supplyChanged
    split
    · exact measured
    · split
      · unfold State.supplyLow
        split <;> exact zerosInRange.abortCapture raised
      · exact raised
  · exact ⟨s, rfl, h⟩

/-- The grant of an item leaves those behind it. -/
theorem zerosInRange.itemGrant {c : Instr} {s : State} (h : zerosInRange s) (hc : c.grantsItem = true) :
    ∃ t, exec c s = .next t ∧ zerosInRange t := by
  obtain ⟨work, bs, hexec, hw, _, hi⟩ := exec_item_changes hc
  have dropped : zerosInRange s.dropItem := fun i hm => h i (List.mem_of_mem_tail hm)
  rw [hexec]
  refine grantItem_keeps h fun i f _ _ hf => ?_
  have worked := dropped.congr ((hw i f hf _).kept hi)
  exact worked.congr (by simp [Block.kept])

/-- Every command but a reset hands no zero outcome out of range. -/
theorem zerosInRange.exec {c : Instr} {s : State} (h : zerosInRange s) (hr : c.resets = false) :
    ∃ t, exec c s = .next t ∧ zerosInRange t := by
  by_cases hw : c.writesItems = false
  · obtain ⟨t, ht, others⟩ := exec_leavesOthers hr s
    exact ⟨t, ht, h.congr (others .items hw)⟩
  by_cases hg : c.grantsItem = true
  · exact h.itemGrant hg
  cases c <;> simp only [Instr.writesItems, Instr.grantsItem, Instr.endsSweep, Bool.or_false, Bool.or_true,
    not_true_eq_false] at hg hw
  case probe => exact h.transaction rfl rfl
  case nodeRead => exact h.transaction rfl rfl
  case nodeWrite => exact h.transaction rfl rfl
  case supplyMeasurement v => exact h.supplyMeasurement v

/-! ### The zero trim (R43, R66, R73, R189) -/

/-- The zero trim is within 1,500 kg either way. -/
abbrev trimInRange (s : State) : Prop := -1500 ≤ s.weigh.zeroTrim ∧ s.weigh.zeroTrim ≤ 1500

theorem trimInRange.congr {s t : State} (h : trimInRange s) (ht : Block.trim.kept s t) : trimInRange t := by
  change t.weigh.zeroTrim = s.weigh.zeroTrim at ht
  unfold trimInRange
  rw [ht]
  exact h

/-- An accepted zero outcome sets the trim to a mean in range (R42, R43). -/
theorem trimInRange.zero {s : State} (h : trimInRange s) (hz : zerosInRange s) :
    ∃ t, execZero s = .next t ∧ trimInRange t := by
  refine grantItem_keeps h fun i f _ hi hf => ?_
  have waits := hz i (List.mem_of_mem_head? hi)
  cases i with
  | zero z =>
    cases hf
    simp only [trimInRange, State.settle_weigh, State.raise_weigh]
    split
    · rename_i accepted
      simpa [Item.zeroInRange, accepted] using waits
    · exact h
  | _ => cases hf

/-- A checked record's trim is in range (V9 of R189). -/
theorem checkSnapshot_trim {payload : List Byte} {r : RawSnapshot} (h : checkSnapshot payload = .ok r) :
    -1500 ≤ r.trim ∧ r.trim ≤ 1500 := by
  have passed : ∀ q : RawSnapshot, q.failing = none → -1500 ≤ q.trim ∧ q.trim ≤ 1500 := by
    intro q hq
    have rest : q.restOk = true := by
      unfold RawSnapshot.failing at hq
      (repeat' split at hq) <;> simp_all
    simp only [RawSnapshot.restOk, Bool.and_eq_true, decide_eq_true_eq] at rest
    obtain ⟨⟨⟨⟨low, high⟩, _⟩, _⟩, _⟩ := rest
    exact ⟨low, high⟩
  unfold checkSnapshot at h
  split at h
  · split at h
    · cases h
    · split at h
      · cases h
      · cases h
        exact passed _ ‹_›
  · cases h

/-- A restore sets the trim of a checked record (R190). -/
theorem trimInRange.restoreSnapshot {s : State} (h : trimInRange s) (p : Port) :
    ∃ t, execRestoreSnapshot p s = .next t ∧ trimInRange t := by
  have asked : trimInRange ((s.dropRequest p).readCalen none) := h
  refine grantRequest_keeps h (fun r a _ _ => asked.congr (by simp [Block.kept])) (fun r _ _ _ _ _ => ?_)
  refine trimInRange.congr (s := (restoreSnapshotWork r.payload ((s.dropRequest p).readCalen none)).1) ?_
    (by simp [Block.kept])
  unfold restoreSnapshotWork
  split
  · split
    · exact asked
    · exact checkSnapshot_trim ‹_›
  · exact asked

theorem trimInRange.exec {c : Instr} {s : State} (h : trimInRange s) (hz : zerosInRange s) (hr : c.resets = false) :
    ∃ t, exec c s = .next t ∧ trimInRange t := by
  by_cases hw : c.writesTrim = false
  · obtain ⟨t, ht, others⟩ := exec_leavesOthers hr s
    exact ⟨t, ht, h.congr (others .trim hw)⟩
  cases c <;> simp only [Instr.writesTrim, not_true_eq_false] at hw
  case zero => exact h.zero hz
  case restoreSnapshot p => exact h.restoreSnapshot p

/-! ### The statement -/

/-- A reset takes the defaults, or clears staging flags and keeps the curves and the trim (R73, R75, R76, R95). -/
theorem reset_keepsCurveAndTrim {c : Instr} {s : State} (hc : CurveLaw s) (hz : ZeroTrimLaw s)
    (hr : c.resets = true) : ∃ t, exec c s = .next t ∧ CurveLaw t ∧ ZeroTrimLaw t := by
  obtain ⟨low, high, waits⟩ := hz
  cases c <;> simp only [Instr.resets, Bool.false_eq_true] at hr
  case powerOnReset => exact ⟨_, rfl, reset_curveLaw, reset_zeroTrimLaw⟩
  case powerCollapse => exact ⟨_, rfl, reset_curveLaw, reset_zeroTrimLaw⟩
  case pinReset =>
    simp only [exec, execPinReset]
    split
    · exact ⟨_, rfl, hc, low, high, by rintro i ⟨⟩⟩
    · exact ⟨_, rfl, hc, low, high, waits⟩
    · exact ⟨_, rfl, hc, low, high, waits⟩
  case pinResetRelease =>
    simp only [exec, execPinResetRelease]
    split
    · refine ⟨_, rfl, hc.staged (f := Cal.pinReset) rfl rfl fun i => ?_, low, high, by rintro i ⟨⟩⟩
      simpa [Cal.pinReset, StagingBin.unflagged] using hc.staging_span i
    · exact ⟨_, rfl, reset_curveLaw, reset_zeroTrimLaw⟩
    · exact ⟨_, rfl, hc, low, high, waits⟩
    · exact ⟨_, rfl, hc, low, high, waits⟩

/-- Every command keeps both laws. -/
theorem exec_keepsCurveAndTrim {s : State} (hc : CurveLaw s) (hz : ZeroTrimLaw s) (c : Instr) :
    ∃ t, exec c s = .next t ∧ CurveLaw t ∧ ZeroTrimLaw t := by
  by_cases hr : c.resets = true
  · exact reset_keepsCurveAndTrim hc hz hr
  rw [Bool.not_eq_true] at hr
  obtain ⟨low, high, waits⟩ := hz
  obtain ⟨t, ht, curve⟩ := hc.exec hr
  obtain ⟨u, hu, zeros⟩ := zerosInRange.exec waits hr
  obtain ⟨v, hv, trim⟩ := trimInRange.exec ⟨low, high⟩ waits hr
  rw [ht] at hu hv
  cases hu
  cases hv
  obtain ⟨lower, upper⟩ := trim
  exact ⟨t, ht, curve, lower, upper, zeros⟩

/-- Settles O56: a reset aside, the curves have five writers, each of which bounds the spans it writes, and the trim
two, of which one takes a zero outcome that was in range when it was handed and the other a checked record. -/
theorem stepsKeepCurveAndTrim : Obligations.StepsKeepCurveAndTrim := by
  intro s t hc hz hs
  exact step_keeps (P := fun s => CurveLaw s ∧ ZeroTrimLaw s) (fun _ _ hu => hu)
    (fun c _ ⟨hcurve, hzero⟩ => exec_keepsCurveAndTrim hcurve hzero c) ⟨hc, hz⟩ hs

end Sys2Proof.Machine
end

section
/-! The checks of a profile (R89, R90): what it is that all thirty pass. -/

namespace Sys2Proof.Machine

theorem inRange_iff {lo hi v : Int} : inRange lo hi v = true ↔ within lo hi v := by
  simp [inRange, within]

/-- A byte names a binding when it is an address or unbound (R194). -/
theorem bindingOf_isSome {n : Nat} : (bindingOf n).isSome = true ↔ n < 16 ∨ n = 0xFF := by
  unfold bindingOf
  split
  · simp_all
  · split <;> simp_all

/-- The addresses that a payload binds are those its bytes name. -/
theorem bindingAt_eq_some {payload : List Byte} {i : Nat} {a : Fin 16} :
    bindingAt payload i = some a ↔ bindingByte payload i = a.val := by
  unfold bindingAt bindingOf
  split
  · simp [Fin.ext_iff]
  · split <;> simp <;> omega

theorem bindingCheck_iff {payload : List Byte} {i : Nat} : bindingCheck payload i = true ↔
    (bindingByte payload i < 16 ∨ bindingByte payload i = 0xFF) ∧
      (bindingByte payload i = 0xFF ∨ ∀ j < i, bindingByte payload j ≠ bindingByte payload i) := by
  simp only [bindingCheck, Bool.and_eq_true, Bool.or_eq_true, bindingOf_isSome, beq_iff_eq, List.all_eq_true,
    List.mem_range, bne_iff_ne]

theorem profileOf_bindings (payload : List Byte) :
    Role.all.filterMap (profileOf payload).binding.get = (List.range 8).filterMap (bindingAt payload) := rfl

/-- No address is bound twice when no byte names the address of a byte before it (R89). -/
theorem profileOf_bindings_nodup (payload : List Byte) :
    (Role.all.filterMap (profileOf payload).binding.get).Nodup ↔ ∀ i < 8, ∀ j < i, bindingByte payload i < 16 →
      bindingByte payload j ≠ bindingByte payload i := by
  rw [profileOf_bindings, List.Nodup, List.pairwise_filterMap, List.pairwise_iff_getElem]
  simp only [List.length_range, List.getElem_range, bindingAt_eq_some]
  constructor
  · intro h i hi j hj hb same
    exact h j i (hj.trans hi) hi hj ⟨_, hb⟩ same ⟨_, hb⟩ rfl rfl
  · rintro h j i - hi hj a ha _ hb rfl
    exact h i hi j hj (hb ▸ a.isLt) (ha.trans hb.symm)

/-- The last eight checks pass when each byte names a binding and no address is bound twice (R89). -/
theorem bindingChecks_iff (payload : List Byte) : (∀ c ∈ (List.range 8).map (bindingCheck payload), c = true) ↔
    (Role.all.filterMap (profileOf payload).binding.get).Nodup ∧
      ∀ i < 8, bindingByte payload i < 16 ∨ bindingByte payload i = 0xFF := by
  rw [profileOf_bindings_nodup]
  simp only [List.forall_mem_map, List.mem_range, bindingCheck_iff]
  constructor
  · intro h
    refine ⟨fun i hi j hj hb => ?_, fun i hi => (h i hi).1⟩
    exact (h i hi).2.resolve_left (by omega) j hj
  · rintro ⟨distinct, named⟩ i hi
    exact ⟨named i hi, (named i hi).symm.imp_right fun hb j hj => distinct i hi j hj hb⟩

/-- The check of the default material: a code of the table whose entry has a density (R89, R141). -/
theorem materialCheck_iff (materials : Vector Material 16) (n : Nat) :
    (if h : n < 16 then materials[n].density != 0 else false) = true ↔
      n < 16 ∧ materials[Fin.ofNat 16 n].density ≠ 0 := by
  by_cases h : n < 16
  · simp [h, Nat.mod_eq_of_lt h]
  · simp [h]

/-- The checks of the default target and maximum say that they are figures of a bay (R89, R96). -/
theorem figuresInRange_iff (target max : Nat) : figuresInRange target max ↔
    within 1000 60000 target ∧ within 1000 60000 max ∧ target ≤ max := by
  omega

/-- All thirty checks pass when the profile keeps R89 and the payload's choices are in range. -/
theorem profileChecks_pass_iff (payload : List Byte) (materials : Vector Material 16) :
    firstFailing (profileChecks payload materials) = none ↔
      (profileOf payload).lawful ∧ natAt payload 31 1 < 16 ∧ materials[(profileOf payload).defMaterial].density ≠ 0 ∧
        natAt payload 24 1 ≤ 1 ∧ natAt payload 36 1 ≤ 3 ∧
        ∀ i < 8, natAt payload (37 + i) 1 < 16 ∨ natAt payload (37 + i) 1 = 0xFF := by
  rw [firstFailing_eq_none, profileChecks, List.forall_mem_append, bindingChecks_iff]
  simp only [fieldChecks, List.forall_mem_cons, materialCheck_iff, inRange_iff, Bool.and_eq_true, Bool.or_eq_true,
    beq_iff_eq, decide_eq_true_eq, List.not_mem_nil, false_imp_iff, implies_true, and_true]
  constructor
  · rintro ⟨⟨period, head, rod, dig, ⟨lo, digLo⟩, ⟨hi, loHi⟩, ⟨truck, hiTruck⟩, dump, rateMin, ⟨rateMax, rates⟩,
      samples, spread, residue, deadband, mode, volume, target, ⟨max, figures⟩, ⟨code, dense⟩, origin, ⟨step, top⟩,
      warn⟩, bindings, named⟩
    obtain ⟨modes, levels⟩ : natAt payload 24 1 ≤ 1 ∧ natAt payload 36 1 ≤ 3 := by omega
    exact ⟨⟨or_assoc.1 period, head, rod, dig, lo, digLo, hi, loHi, truck, hiTruck, dump, rateMin, rateMax, rates,
      samples, spread, residue, deadband, volume, (figuresInRange_iff _ _).2 ⟨target, max, figures⟩, origin, step, top,
      bindings⟩, code, dense, modes, levels, named⟩
  · rintro ⟨⟨period, head, rod, dig, lo, digLo, hi, loHi, truck, hiTruck, dump, rateMin, rateMax, rates, samples,
      spread, residue, deadband, volume, figures, origin, step, top, bindings⟩, code, dense, mode, warn, named⟩
    obtain ⟨target, max, ordered⟩ := (figuresInRange_iff _ _).1 figures
    exact ⟨⟨or_assoc.2 period, head, rod, dig, ⟨lo, digLo⟩, ⟨hi, loHi⟩, ⟨truck, hiTruck⟩, dump, rateMin,
      ⟨rateMax, rates⟩, samples, spread, residue, deadband, by omega, volume, target, ⟨max, ordered⟩, ⟨code, dense⟩,
      origin, ⟨step, top⟩, by omega⟩, bindings, named⟩

end Sys2Proof.Machine
end

section
/-! Every step keeps the profile's ranges and cross-checks and the material table's (R89, R141). -/

namespace Sys2Proof.Machine

theorem ProfileLaw.congr {s t : State} (h : ProfileLaw s) (hp : Block.profile.kept s t)
    (hm : Block.materials.kept s t) : ProfileLaw t := by
  change t.cal.profile = s.cal.profile at hp
  change t.materials = s.materials at hm
  simpa only [ProfileLaw, hp, hm] using h

/-- A profile whose thirty checks have passed against the material table keeps the law (R89 to R91). -/
theorem ProfileLaw.setProfileWork {s : State} (h : ProfileLaw s) (payload : List Byte) :
    ProfileLaw (setProfileWork payload s).1 := by
  unfold Machine.setProfileWork
  split
  · exact h
  · rename_i passed
    split
    · exact h
    · obtain ⟨_, entries, _⟩ := h
      obtain ⟨lawful, _, dense, _⟩ := (profileChecks_pass_iff payload s.materials).1 passed
      exact ⟨lawful, entries, dense⟩

theorem densityOk_iff {n : Nat} : densityOk n = true ↔ n = 0 ∨ 500 ≤ n ∧ n ≤ 3500 := by
  simp [densityOk]

/-- WRITE_MATERIAL writes at most one entry, whose density and label it has checked, and takes the density of no
default material (R142). -/
theorem writeMaterialWork_cases (payload : List Byte) (s : State) :
    (writeMaterialWork payload s).1 = s ∨ ∃ code : Fin 16, ∃ entry : Material,
      (writeMaterialWork payload s).1 = { s with materials := s.materials.set code entry } ∧
        (entry.density = 0 ∨ 500 ≤ entry.density ∧ entry.density ≤ 3500) ∧ entry.label = slice payload 3 8 ∧
        entry.label.all labelChar = true ∧ (s.cal.profile.defMaterial = code → entry.density ≠ 0) := by
  unfold writeMaterialWork
  dsimp only
  split
  case isFalse => exact .inl rfl
  rename_i hcode
  split
  case isTrue => exact .inl rfl
  rename_i density
  split
  case isTrue => exact .inl rfl
  rename_i label
  split
  case isTrue => exact .inl rfl
  rename_i starves
  rw [Bool.not_eq_true, Bool.not_eq_false'] at density label
  exact .inr ⟨⟨_, hcode⟩, ⟨_, _⟩, rfl, densityOk_iff.1 density, rfl, label,
    fun same empty => starves ⟨empty, Fin.ext_iff.1 same⟩⟩

theorem lengthFits_iff {k : ReqKind} {n : Nat} : lengthFits k n = true ↔ k.lengths.1 ≤ n ∧ n ≤ k.lengths.2 := by
  simp [lengthFits]

/-- The label of a WRITE_MATERIAL of the length that R194 gives has eight characters. -/
theorem label_length {payload : List Byte} (h : lengthFits .writeMaterial payload.length = true) :
    (slice payload 3 8).length = 8 := by
  have fits : 11 ≤ payload.length ∧ payload.length ≤ 11 := lengthFits_iff.1 h
  simp only [slice, List.length_take, List.length_drop]
  omega

theorem ProfileLaw.writeMaterialWork {s : State} (h : ProfileLaw s) {payload : List Byte}
    (hl : lengthFits .writeMaterial payload.length = true) : ProfileLaw (writeMaterialWork payload s).1 := by
  obtain same | ⟨code, entry, written, density, label, chars, default⟩ := writeMaterialWork_cases payload s
  · rw [same]
    exact h
  rw [written]
  obtain ⟨profile, entries, dense⟩ := h
  have found : ∀ i : Fin 16, (s.materials.set code entry)[i] = if code = i then entry else s.materials[i] := by
    intro i
    simp [Fin.getElem_fin, Vector.getElem_set, Fin.ext_iff]
  refine ⟨profile, fun i => ?_, ?_⟩
  · change ((s.materials.set code entry)[i]).lawful
    rw [found]
    split
    · exact ⟨density, label ▸ label_length hl, chars⟩
    · exact entries i
  · change ((s.materials.set code entry)[s.cal.profile.defMaterial]).density ≠ 0
    rw [found]
    split
    · exact default (Eq.symm ‹_›)
    · exact dense

/-- A grant of a request keeps the law when its work does, given a payload of a length that the kind allows. -/
theorem ProfileLaw.grantRequest {s : State} (h : ProfileLaw s) {k : ReqKind} (p : Port) (calen : Option Bool)
    {work : List Byte → State → State × Reply}
    (hw : ∀ payload u, lengthFits k payload.length = true → ProfileLaw u → ProfileLaw (work payload u).1) :
    ∃ t, grantRequest k p calen work s = .next t ∧ ProfileLaw t := by
  have asked : ProfileLaw ((s.dropRequest p).readCalen calen) := h.congr (by simp [Block.kept]) (by simp [Block.kept])
  refine grantRequest_keeps h (fun r a _ _ => asked.congr ?_ ?_)
    fun r _ _ _ _ hl => (hw r.payload _ hl asked).congr ?_ ?_
  all_goals simp [Block.kept]

/-- The profile and the material table have a writer each. -/
theorem ProfileLaw.exec {c : Instr} {s : State} (h : ProfileLaw s) (hr : c.resets = false) :
    ∃ t, exec c s = .next t ∧ ProfileLaw t := by
  by_cases hw : c.mayChange .profile = false ∧ c.mayChange .materials = false
  · obtain ⟨hprofile, hmaterials⟩ := hw
    obtain ⟨t, ht, others⟩ := exec_leavesOthers hr s
    exact ⟨t, ht, h.congr (others .profile hprofile) (others .materials hmaterials)⟩
  cases c <;> simp only [Instr.mayChange, Instr.writesProfile, and_self, not_true_eq_false] at hw
  case setProfile p calen => exact h.grantRequest p _ fun payload u _ hu => hu.setProfileWork payload
  case writeMaterial p => exact h.grantRequest p _ fun payload u hl hu => hu.writeMaterialWork hl

/-- A reset takes the defaults, or keeps the profile and the material table (R95, R144). -/
theorem ProfileLaw.reset {c : Instr} {s : State} (h : ProfileLaw s) (hr : c.resets = true) :
    ∃ t, Machine.exec c s = .next t ∧ ProfileLaw t := by
  cases c <;> simp only [Instr.resets, Bool.false_eq_true] at hr
  case powerOnReset => exact ⟨_, rfl, reset_profileLaw⟩
  case powerCollapse => exact ⟨_, rfl, reset_profileLaw⟩
  case pinReset =>
    simp only [Machine.exec, execPinReset]
    split <;> exact ⟨_, rfl, h⟩
  case pinResetRelease =>
    simp only [Machine.exec, execPinResetRelease]
    split
    · exact ⟨_, rfl, h⟩
    · exact ⟨_, rfl, reset_profileLaw⟩
    · exact ⟨_, rfl, h⟩
    · exact ⟨_, rfl, h⟩

/-- Settles O57: a reset aside, SET_PROFILE alone writes the profile and WRITE_MATERIAL alone the material table, and
each checks what it writes against the other's. -/
theorem stepsKeepProfile : Obligations.StepsKeepProfile := by
  intro s t h hs
  refine step_keeps (P := ProfileLaw) (fun _ _ hu => hu) (fun c u hu => ?_) h hs
  by_cases hr : c.resets = true
  · exact hu.reset hr
  · exact hu.exec (Bool.eq_false_iff.2 hr)

end Sys2Proof.Machine
end

section
/-! The grant of a capture outcome (R82 to R84): what each bin of a completed capture stages and reports. -/

namespace Sys2Proof.Machine

/-! ### One bin (R82 to R84) -/

/-- A bin of fewer than two forces fails, and has no mean (R82). -/
theorem judgeBin_few (kind : CaptureKind) {b : CaptureBin} (staging : StagingBin) (active : CurveBin)
    (h : b.count < 2) : judgeBin kind b staging active = (staging, ⟨false, b.count, none, none⟩) := if_pos h

/-- A bin of an EMPTY capture stages its mean force (R82). -/
theorem judgeBin_empty {b : CaptureBin} (staging : StagingBin) (active : CurveBin) (h : 2 ≤ b.count) :
    judgeBin .empty b staging active =
      ({ staging with empty := meanOf b.sum b.count, eValid := true },
        ⟨true, b.count, some (meanOf b.sum b.count), none⟩) := if_neg (Nat.not_lt.2 h)

/-- A bin of a LOAD capture stages a span when its mean force rises above the reference, and fails otherwise (R83). -/
theorem judgeBin_load (mass : Nat) {b : CaptureBin} (staging : StagingBin) (active : CurveBin) (h : 2 ≤ b.count) :
    let force := meanOf b.sum b.count
    let rise := force - reference staging active
    (0 < rise → judgeBin (.load mass) b staging active =
      ({ staging with span := spanOf mass rise, sValid := true }, ⟨true, b.count, some force, some rise⟩)) ∧
    (rise ≤ 0 → judgeBin (.load mass) b staging active = (staging, ⟨false, b.count, some force, some rise⟩)) := by
  intro force rise
  have judged : judgeBin (.load mass) b staging active =
      if 0 < rise then
        ({ staging with span := spanOf mass rise, sValid := true }, ⟨true, b.count, some force, some rise⟩)
      else (staging, ⟨false, b.count, some force, some rise⟩) := if_neg (Nat.not_lt.2 h)
  exact ⟨fun hr => judged.trans (if_pos hr), fun hr => judged.trans (if_neg (Int.not_lt.2 hr))⟩

/-- A completed capture judges each of the sixteen bins, and reports what it judged (R84). -/
theorem Cal.capture_some (c : Cal) (kind : CaptureKind) (bs : Vector CaptureBin 16) :
    ∃ rs : Vector BinReport 16, (c.capture kind (some bs)).report = some ⟨kind, some rs⟩ ∧
      ∀ i : Fin 16, judgeBin kind bs[i] c.staging[i] c.active[i] = ((c.capture kind (some bs)).staging[i], rs[i]) :=
  ⟨_, rfl, fun i => by simp [Cal.capture]⟩

/-! ### The statement -/

/-- Settles O24: the work replaces the report and stages what each bin is judged to give, and raises CAPTURE. -/
theorem captureOutcomeStagesBins : Obligations.CaptureOutcomeStagesBins := by
  intro s kind bins rest ho
  have granted := ho.grant (work := captureWork) rfl
  rw [State.settle_same (by simp) (by simp) (by simp)] at granted
  obtain ⟨ports, counted⟩ := raised_ports (s := s) (n := .capture) (by decide) rfl rfl
  have stored : ∀ u : State,
      ((u.modifyCal fun c => c.capture kind bins).raise .capture).cal = u.cal.capture kind bins := fun u => by simp
  refine ⟨_, granted, ?_, ports, counted, ?_, ?_, ?_⟩
  · apply State.eq_of_fields <;> simp
  · rw [stored]
    cases bins <;> rfl
  · rintro rfl
    rw [stored]
    exact ⟨rfl, rfl⟩
  · rintro bs rfl
    obtain ⟨rs, report, judged⟩ := s.cal.capture_some kind bs
    rw [stored]
    refine ⟨rs, report, fun i => ?_⟩
    intro n force old rise
    have outcome : ∀ {x}, judgeBin kind bs[i] s.cal.staging[i] s.cal.active[i] = x →
        (s.cal.capture kind (some bs)).staging[i] = x.1 ∧ rs[i] = x.2 :=
      fun h => Prod.ext_iff.1 ((judged i).symm.trans h)
    refine ⟨fun hn => outcome (judgeBin_few _ _ _ hn), ?_, ?_, ?_⟩
    · rintro hn rfl
      exact outcome (judgeBin_empty _ _ hn)
    · rintro mass hn rfl hr
      exact outcome ((judgeBin_load mass _ _ hn).1 hr)
    · rintro mass hn rfl hr
      exact outcome ((judgeBin_load mass _ _ hn).2 hr)

end Sys2Proof.Machine
end

section
/-! The requests that stage bins and that arm and disarm the capture (R78 to R80, R86). -/

namespace Sys2Proof.Machine

/-! ### The grant of a calibration request (R176, R178) -/

/-- An offered calibration request, with CALEN high, is answered by its work, when that leaves the bay records, the
shift counters and the log's records alone (R97, R177). -/
theorem Offers.calibrates {s t : State} {p : Port} {k : ReqKind} {r : Request} {rest : List Request} {bs : List Block}
    {work : List Byte → State → State × Reply} {status : Status} {payload : List Byte} (h : Offers s p k r rest)
    (hk : k.class = .calibrate) (hc : WorkChanges bs work) (hb : ∀ b ∈ [.bayRecords, .counters, .logRecords], b ∉ bs)
    (hw : work r.payload ((s.granted p rest).strapped true) = (t, ⟨status, payload⟩)) :
    grantRequest k p (some true) work s = .next (t.answered p r status payload) := by
  have changes := hc r.payload ((s.granted p rest).strapped true)
  rw [hw] at changes
  refine h.answers (some true) (by simp [denial, hk]) hw (changes.kept (b := .bayRecords) ?_)
    (changes.kept (b := .counters) ?_) (changes.kept (b := .logRecords) ?_)
  all_goals exact hb _ (by simp)

/-! ### The first check that fails (R179) -/

/-- After checks that pass, one that fails is answered by its place, counted from 1. -/
theorem firstFailing_after {passed rest : List Bool} (h : ∀ c ∈ passed, c = true) :
    firstFailing (passed ++ false :: rest) = some (passed.length + 1) := by
  have none : passed.findIdx? (fun c => !c) = none := by simpa using h
  simp [firstFailing, List.findIdx?_append, List.findIdx?_cons, none]

/-- Bytes spell a number below the power of 256 that their count gives (chapter 11). -/
theorem fromBe_lt (bs : List Byte) : fromBe bs < 256 ^ bs.length := by
  induction bs using List.reverseRecOn with
  | nil => decide
  | append_singleton bs b ih =>
    have appended : fromBe (bs ++ [b]) = fromBe bs * 256 + b.toNat := by simp [fromBe]
    have byte := b.isLt
    rw [appended, List.length_append, List.length_singleton, pow_succ]
    omega

theorem natAt_lt (payload : List Byte) (off len : Nat) : natAt payload off len < 256 ^ len := by
  refine (fromBe_lt _).trans_le (Nat.pow_le_pow_right (by decide) ?_)
  simp [slice]

/-! ### STAGE_PIECE and STAGE_FILL (R78, R79) -/

theorem pieceEmpty_inRange_iff {payload : List Byte} {j : Nat} :
    inRange (-2621400) 2621400 (pieceEmpty payload j) = true ↔
      ¬(intAt payload (1 + 6 * j) 4 < -2621400 ∨ 2621400 < intAt payload (1 + 6 * j) 4) := by
  rw [inRange_iff, pieceEmpty]
  omega

/-- Two bytes cannot spell a span above 65,535, so a span fails when it is 0. -/
theorem pieceSpan_inRange_iff {payload : List Byte} {j : Nat} :
    inRange 1 65535 (pieceSpan payload j) = true ↔ ¬natAt payload (5 + 6 * j) 2 = 0 := by
  have bound := natAt_lt payload (5 + 6 * j) 2
  rw [inRange_iff, pieceSpan]
  omega

/-- The force and the span of one bin of a piece are in range (R78). -/
abbrev pieceBinPasses (payload : List Byte) (j : Nat) : Prop := ∀ c ∈ pieceBinChecks payload j, c = true

theorem pieceBinPasses_iff {payload : List Byte} {j : Nat} : pieceBinPasses payload j ↔
    ¬(intAt payload (1 + 6 * j) 4 < -2621400 ∨ 2621400 < intAt payload (1 + 6 * j) 4) ∧
      ¬natAt payload (5 + 6 * j) 2 = 0 := by
  simp only [pieceBinPasses, pieceBinChecks, List.forall_mem_cons, pieceEmpty_inRange_iff, pieceSpan_inRange_iff,
    List.not_mem_nil, false_imp_iff, implies_true, and_true]

/-- The checks up to those of the j-th bin: k, then two for each bin before (R78). -/
def pieceChecksBefore (payload : List Byte) (j : Nat) : List Bool :=
  decide (natAt payload 0 1 < 4) :: (List.range j).flatMap (pieceBinChecks payload)

theorem pieceChecksBefore_length (payload : List Byte) (j : Nat) :
    (pieceChecksBefore payload j).length = 2 * j + 1 := by
  simp [pieceChecksBefore, pieceBinChecks, List.length_flatMap, mul_comm]

theorem pieceChecksBefore_pass {payload : List Byte} {j : Nat} (hk : natAt payload 0 1 < 4)
    (h : ∀ i < j, pieceBinPasses payload i) : ∀ c ∈ pieceChecksBefore payload j, c = true := by
  refine List.forall_mem_cons.2 ⟨decide_eq_true hk, fun c hc => ?_⟩
  obtain ⟨i, hi, hc⟩ := List.mem_flatMap.1 hc
  exact h i (List.mem_range.1 hi) c hc

theorem pieceChecks_at (payload : List Byte) (j : Fin 4) : ∃ rest, pieceChecks payload =
    pieceChecksBefore payload j ++ inRange (-2621400) 2621400 (pieceEmpty payload j) ::
      inRange 1 65535 (pieceSpan payload j) :: rest := by
  have bins : List.range 4 = List.range j ++ j.val :: List.range' (j + 1) (3 - j) := by
    revert j
    decide
  refine ⟨(List.range' (j + 1) (3 - j)).flatMap (pieceBinChecks payload), ?_⟩
  rw [pieceChecks, bins, List.flatMap_append]
  rfl

/-- A STAGE_PIECE fails at the force of the j-th bin (R78). -/
theorem firstFailing_pieceForce {payload : List Byte} {j : Fin 4} (hk : natAt payload 0 1 < 4)
    (h : ∀ i < j.val, pieceBinPasses payload i)
    (hf : intAt payload (1 + 6 * j) 4 < -2621400 ∨ 2621400 < intAt payload (1 + 6 * j) 4) :
    firstFailing (pieceChecks payload) = some (2 + 2 * j.val) := by
  obtain ⟨rest, checks⟩ := pieceChecks_at payload j
  have failed : inRange (-2621400) 2621400 (pieceEmpty payload j) = false :=
    Bool.eq_false_iff.2 fun hp => pieceEmpty_inRange_iff.1 hp hf
  rw [checks, failed, firstFailing_after (pieceChecksBefore_pass hk h), pieceChecksBefore_length]
  congr 1
  omega

/-- A STAGE_PIECE fails at the span of the j-th bin (R78). -/
theorem firstFailing_pieceSpan {payload : List Byte} {j : Fin 4} (hk : natAt payload 0 1 < 4)
    (h : ∀ i < j.val, pieceBinPasses payload i)
    (hf : ¬(intAt payload (1 + 6 * j) 4 < -2621400 ∨ 2621400 < intAt payload (1 + 6 * j) 4))
    (hs : natAt payload (5 + 6 * j) 2 = 0) : firstFailing (pieceChecks payload) = some (3 + 2 * j.val) := by
  obtain ⟨rest, checks⟩ := pieceChecks_at payload j
  have failed : inRange 1 65535 (pieceSpan payload j) = false :=
    Bool.eq_false_iff.2 fun hp => pieceSpan_inRange_iff.1 hp hs
  have passed : ∀ c ∈ pieceChecksBefore payload j ++ [true], c = true :=
    List.forall_mem_append.2 ⟨pieceChecksBefore_pass hk h, by simp⟩
  rw [checks, failed, pieceEmpty_inRange_iff.2 hf, List.append_cons, firstFailing_after passed, List.length_append,
    pieceChecksBefore_length]
  congr 1
  simp only [List.length_singleton]
  omega

/-- A STAGE_PIECE whose k and four bins are in range fails nowhere (R78). -/
theorem firstFailing_piece_eq_none {payload : List Byte} (hk : natAt payload 0 1 < 4)
    (h : ∀ j < 4, pieceBinPasses payload j) : firstFailing (pieceChecks payload) = none :=
  firstFailing_eq_none.2 (pieceChecksBefore_pass hk h)

theorem firstFailing_pieceNumber {payload : List Byte} (hk : 4 ≤ natAt payload 0 1) :
    firstFailing (pieceChecks payload) = some 1 := by
  have failed : decide (natAt payload 0 1 < 4) = false := decide_eq_false (Nat.not_lt.2 hk)
  rw [pieceChecks, failed]
  exact firstFailing_after (passed := []) (by simp)

theorem stagePieceWork_range {payload : List Byte} {s : State} {n : Nat}
    (h : firstFailing (pieceChecks payload) = some n) : stagePieceWork payload s = (s, .range n) := by
  unfold stagePieceWork
  rw [h]

theorem stagePieceWork_stages {payload : List Byte} {s : State} (h : firstFailing (pieceChecks payload) = none) :
    stagePieceWork payload s =
      (s.modifyCal fun c => { c with staging := stagePiece c.staging payload }, .ok []) := by
  unfold stagePieceWork
  rw [h]

theorem stagePiece_getElem (staging : Vector StagingBin 16) (payload : List Byte) (i : Fin 16) :
    (stagePiece staging payload)[i] = if i.val / 4 = natAt payload 0 1 then
      ⟨intAt payload (1 + 6 * (i.val % 4)) 4, natAt payload (5 + 6 * (i.val % 4)) 2, true, true⟩ else staging[i] := by
  simp [stagePiece, pieceEmpty, pieceSpan]

/-- The answer of STAGE_FILL counts the values that the staging curve lacked (R79). -/
theorem stageFillWork_eq (payload : List Byte) (s : State) : stageFillWork payload s =
    (s.modifyCal fun c => { c with staging := Vector.ofFn fun i => c.staging[i].fill c.active[i] },
      .ok (be 1 (s.cal.staging.toList.countP fun b => !b.eValid) ++
        be 1 (s.cal.staging.toList.countP fun b => !b.sValid))) := by
  simp only [stageFillWork, List.countP_eq_length_filter]

/-- Settles O43: the work of STAGE_PIECE answers the first of its nine checks that fails and otherwise writes four
bins; that of STAGE_FILL completes each bin. -/
theorem stagingRequestsStageBins : Obligations.StagingRequestsStageBins := by
  refine ⟨fun s p r rest ho => ?piece, fun s p r rest ho => ?fill⟩
  case piece =>
    intro k force span forceBad spanBad g
    have answers : ∀ {t status payload}, stagePieceWork r.payload g = (t, ⟨status, payload⟩) →
        exec (.stagePiece p true) s = .next (t.answered p r status payload) :=
      ho.calibrates rfl stagePieceWork_changes (by simp)
    have passes : ∀ {i : Nat}, ¬forceBad i ∧ ¬spanBad i → pieceBinPasses r.payload i := pieceBinPasses_iff.2
    have before : ∀ {j : Fin 4}, (∀ i : Fin 4, i < j → ¬forceBad i ∧ ¬spanBad i) →
        ∀ i < j.val, pieceBinPasses r.payload i := fun {j} h i hi => passes (h ⟨i, hi.trans j.isLt⟩ hi)
    refine ⟨fun hk => answers (stagePieceWork_range (firstFailing_pieceNumber hk)),
      fun j hk h hf => answers (stagePieceWork_range (firstFailing_pieceForce hk (before h) hf)),
      fun j hk h hf hs => answers (stagePieceWork_range (firstFailing_pieceSpan hk (before h) hf hs)), fun hk h => ?_⟩
    have passed := firstFailing_piece_eq_none hk fun j hj => passes (h ⟨j, hj⟩)
    exact ⟨_, answers (stagePieceWork_stages passed), stagePiece_getElem s.cal.staging r.payload⟩
  case fill =>
    intro g bins
    refine ⟨_, ho.calibrates rfl stageFillWork_changes (by simp) (stageFillWork_eq r.payload g), fun i => ?_⟩
    rw [Fin.getElem_fin, Vector.getElem_ofFn]
    rfl

/-! ### START_CAPTURE and ABORT_CAPTURE (R80, R86) -/

theorem captureKindOf_empty {payload : List Byte} (h : natAt payload 0 1 = 0) :
    captureKindOf payload = .ok .empty := by
  unfold captureKindOf
  rw [h]
  rfl

theorem captureKindOf_load {payload : List Byte} (h : natAt payload 0 1 = 1) : captureKindOf payload =
    if inRange 500 30000 (natAt payload 1 2) then .ok (.load (natAt payload 1 2)) else .error 2 := by
  unfold captureKindOf
  rw [h]
  rfl

/-- The kind and mass of a START_CAPTURE, or the field that fails (R80, R194). -/
theorem captureKindOf_spec (payload : List Byte) :
    let kind := natAt payload 0 1
    let mass := natAt payload 1 2
    (2 ≤ kind → captureKindOf payload = .error 1) ∧
    (kind = 1 → mass < 500 ∨ 30000 < mass → captureKindOf payload = .error 2) ∧
    (kind = 0 ∨ (kind = 1 ∧ 500 ≤ mass ∧ mass ≤ 30000) →
      captureKindOf payload = .ok (if kind = 0 then .empty else .load mass)) := by
  intro kind mass
  have massInRange : inRange 500 30000 mass = true ↔ 500 ≤ mass ∧ mass ≤ 30000 := by
    rw [inRange_iff]
    omega
  refine ⟨fun hk => ?_, fun hk hm => ?_, fun h => ?_⟩
  · unfold captureKindOf
    split <;> [omega; omega; rfl]
  · exact (captureKindOf_load hk).trans (if_neg fun hp => by have := massInRange.1 hp; omega)
  · obtain hk | ⟨hk, hm⟩ := h
    · rw [captureKindOf_empty hk, if_pos hk]
    · rw [captureKindOf_load hk, if_pos (massInRange.2 hm), if_neg (by omega)]

theorem startCaptureWork_range {payload : List Byte} {s : State} {n : Nat} (h : captureKindOf payload = .error n) :
    startCaptureWork payload s = (s, .range n) := by
  unfold startCaptureWork
  rw [h]

/-- A START_CAPTURE whose fields pass waits for a pending zero, a capture or a window, and else arms (R80). -/
theorem startCaptureWork_spec {payload : List Byte} {kind : CaptureKind} (h : captureKindOf payload = .ok kind)
    (s : State) :
    (s.tracker.zeroPending = true → startCaptureWork payload s = (s, .busy 3)) ∧
    (s.tracker.zeroPending = false → s.tracker.capture ≠ none → startCaptureWork payload s = (s, .busy 4)) ∧
    (s.tracker.zeroPending = false → s.tracker.capture = none → s.tracker.cycle.weighing = true →
      startCaptureWork payload s = (s, .stateTracker s.tracker.cycle)) ∧
    (s.tracker.zeroPending = false → s.tracker.capture = none → s.tracker.cycle.weighing = false →
      startCaptureWork payload s =
        (s.emptyCaptureBins.modifyTracker fun t => { t.dropHeld with capture := some kind }, ⟨.accepted, []⟩)) := by
  unfold startCaptureWork
  rw [h]
  refine ⟨fun hz => if_pos hz, fun hz hk => ?_, fun hz hk hc => ?_, fun hz hk hc => ?_⟩ <;>
    refine (if_neg (Bool.eq_false_iff.1 hz)).trans ?_
  · exact if_pos (Option.isSome_iff_ne_none.2 hk)
  · rw [if_neg (by simp [hk]), if_pos hc]
  · rw [if_neg (by simp [hk]), if_neg (Bool.eq_false_iff.1 hc)]

/-- Arming discards a result held in CARRY, with both overload-risk flags (R80). -/
theorem Tracker.dropHeld_eq (t : Tracker) : t.dropHeld = { t with
    held := if t.cycle = .carry ∧ t.held ≠ none then none else t.held
    overload := if t.cycle = .carry ∧ t.held ≠ none then ⟨false, false⟩ else t.overload } := by
  unfold Tracker.dropHeld
  simp only [Option.isSome_iff_ne_none]
  split <;> rfl

theorem abortCaptureWork_spec (payload : List Byte) (s : State) :
    (s.tracker.capture ≠ none → abortCaptureWork payload s =
      (s.emptyCaptureBins.modifyTracker fun t => { t with capture := none }, .ok [1])) ∧
    (s.tracker.capture = none → abortCaptureWork payload s = (s, .ok [0])) := by
  unfold abortCaptureWork
  exact ⟨fun hk => if_pos (Option.isSome_iff_ne_none.2 hk), fun hk => if_neg (by simp [hk])⟩

/-- Settles O44: the work of START_CAPTURE answers a failing field or a reason to wait, or arms; that of ABORT_CAPTURE
asks only whether a capture is armed. -/
theorem captureRequestsArmAndDisarm : Obligations.CaptureRequestsArmAndDisarm := by
  refine ⟨fun s p r rest ho => ?start, fun s p r rest ho => ?abort⟩
  case start =>
    intro kind mass fieldsGood t weighing g
    have answers : ∀ {u status payload}, startCaptureWork r.payload g = (u, ⟨status, payload⟩) →
        exec (.startCapture p true) s = .next (u.answered p r status payload) :=
      ho.calibrates rfl startCaptureWork_changes (by simp)
    obtain ⟨badKind, badMass, goodFields⟩ := captureKindOf_spec r.payload
    have work := fun h : fieldsGood => startCaptureWork_spec (goodFields h) g
    refine ⟨fun hk => answers (startCaptureWork_range (badKind hk)),
      fun hk hm => answers (startCaptureWork_range (badMass hk hm)), fun h hz => ?_, fun h hz hk => ?_,
      fun h hz hk hw => ?_, fun h hz hk hw => ?_⟩ <;> obtain ⟨pending, armed, windowOpen, free⟩ := work h
    · exact answers (pending hz)
    · exact answers (armed hz hk)
    · exact answers (windowOpen hz hk ((CycleState.weighing_iff _).2 hw))
    · refine (answers (free hz hk ?_)).trans ?_
      · exact Bool.eq_false_iff.2 (hw ∘ (CycleState.weighing_iff _).1)
      · simp only [Tracker.dropHeld_eq]
        rfl
  case abort =>
    intro g
    obtain ⟨armed, disarmed⟩ := abortCaptureWork_spec r.payload g
    exact ⟨fun hk => ho.calibrates rfl abortCaptureWork_changes (by simp) (armed hk),
      fun hk => ho.calibrates rfl abortCaptureWork_changes (by simp) (disarmed hk)⟩

end Sys2Proof.Machine
end

section
/-! The requests that wait for the window and the capture to end (R87, R88, R90 to R92): SET_PROFILE and
INSTALL_CURVE. -/

namespace Sys2Proof.Machine

/-- The BUSY reasons of both requests: an armed capture before WEIGH or CHECK (R87, R91, R196). -/
theorem Tracker.busyReason_spec (t : Tracker) :
    (t.capture ≠ none → t.busyReason = some 4) ∧
    (t.capture = none → t.cycle = .weigh ∨ t.cycle = .check → t.busyReason = some 5) ∧
    (t.capture = none → ¬(t.cycle = .weigh ∨ t.cycle = .check) → t.busyReason = none) := by
  unfold Tracker.busyReason
  refine ⟨fun hk => if_pos (Option.isSome_iff_ne_none.2 hk), fun hk hc => ?_, fun hk hc => ?_⟩ <;>
    rw [if_neg (by simp [hk])]
  · exact if_pos ((CycleState.weighing_iff _).2 hc)
  · exact if_neg (hc ∘ (CycleState.weighing_iff _).1)

/-! ### SET_PROFILE (R90 to R92) -/

theorem setProfileWork_range {payload : List Byte} {s : State} {n : Nat}
    (h : firstFailing (profileChecks payload s.materials) = some n) : setProfileWork payload s = (s, .range n) := by
  unfold setProfileWork
  rw [h]

theorem setProfileWork_busy {payload : List Byte} {s : State} {n : Nat}
    (h : firstFailing (profileChecks payload s.materials) = none) (hb : s.tracker.busyReason = some n) :
    setProfileWork payload s = (s, .busy n) := by
  unfold setProfileWork
  rw [h, hb]

theorem setProfileWork_replaces {payload : List Byte} {s : State}
    (h : firstFailing (profileChecks payload s.materials) = none) (hb : s.tracker.busyReason = none) :
    setProfileWork payload s = (s.modifyCal fun c => c.setProfile (profileOf payload), .ok []) := by
  unfold setProfileWork
  rw [h, hb]

/-- Settles O46: the work answers the first check that fails, then the reason to wait, and otherwise replaces the
profile; that every check passes is R89, check by check. -/
theorem setProfileReplacesCheckedProfile : Obligations.SetProfileReplacesCheckedProfile := by
  refine ⟨fun s p r rest ho => ?request, fun payload materials _ => profileChecks_pass_iff payload materials⟩
  intro g new weighing
  obtain ⟨armed, windowOpen, free⟩ := s.tracker.busyReason_spec
  have answers : ∀ {t status payload}, setProfileWork r.payload g = (t, ⟨status, payload⟩) →
      exec (.setProfile p true) s = .next (t.answered p r status payload) :=
    ho.calibrates rfl setProfileWork_changes (by simp)
  exact ⟨fun n hf => answers (setProfileWork_range hf),
    fun hf hk => answers (setProfileWork_busy hf (armed hk)),
    fun hf hk hw => answers (setProfileWork_busy hf (windowOpen hk hw)),
    fun hf hk hw => answers (setProfileWork_replaces hf (free hk hw))⟩

/-! ### INSTALL_CURVE (R87, R88) -/

/-- Both flags of a staging bin are set. -/
abbrev StagingBin.complete (b : StagingBin) : Prop := b.eValid = true ∧ b.sValid = true

/-- The answered bin is the lowest that lacks a flag (R87). -/
theorem incompleteBin_eq_some {staging : Vector StagingBin 16} {i : Fin 16} (hi : ¬staging[i].complete)
    (hj : ∀ j < i, staging[j].complete) : incompleteBin staging = some i.val := by
  refine List.findIdx?_eq_some_iff_getElem.2 ⟨by simp, ?_, fun j hlt => ?_⟩
  · simpa [imp_iff_not_or] using hi
  · have complete := hj ⟨j, hlt.trans i.isLt⟩ hlt
    simpa using complete

theorem incompleteBin_eq_none {staging : Vector StagingBin 16} (h : ∀ i : Fin 16, staging[i].complete) :
    incompleteBin staging = none := by
  refine List.findIdx?_eq_none_iff.2 fun b hb => ?_
  obtain ⟨i, hi, rfl⟩ := Vector.mem_iff_getElem.1 (Vector.mem_toList_iff.1 hb)
  have complete := h ⟨i, hi⟩
  simpa using complete

theorem installCurveWork_state {payload : List Byte} {s : State} {b : Nat} (h : incompleteBin s.cal.staging = some b) :
    installCurveWork payload s = (s, .refuse .state (0x30 + b) []) := by
  unfold installCurveWork
  rw [h]

theorem installCurveWork_busy {payload : List Byte} {s : State} {n : Nat} (h : incompleteBin s.cal.staging = none)
    (hb : s.tracker.busyReason = some n) : installCurveWork payload s = (s, .busy n) := by
  unfold installCurveWork
  rw [h, hb]

theorem installCurveWork_installs {payload : List Byte} {s : State} (h : incompleteBin s.cal.staging = none)
    (hb : s.tracker.busyReason = none) :
    installCurveWork payload s = (s.modifyCal Cal.install, .ok (be 2 (nextGeneration s.cal.generation))) := by
  unfold installCurveWork
  rw [h, hb]

/-- Settles O45: the work answers the lowest incomplete bin, then the reason to wait, and otherwise installs. -/
theorem installCurveCopiesStaging : Obligations.InstallCurveCopiesStaging := by
  intro s p r rest ho g complete weighing next
  obtain ⟨armed, windowOpen, free⟩ := s.tracker.busyReason_spec
  have answers : ∀ {t status payload}, installCurveWork r.payload g = (t, ⟨status, payload⟩) →
      exec (.installCurve p true) s = .next (t.answered p r status payload) :=
    ho.calibrates rfl installCurveWork_changes (by simp)
  have staged : (∀ i, complete i) → incompleteBin g.cal.staging = none := incompleteBin_eq_none
  exact ⟨fun i hi hj => answers (installCurveWork_state (incompleteBin_eq_some hi hj)),
    fun h hk => answers (installCurveWork_busy (staged h) (armed hk)),
    fun h hk hw => answers (installCurveWork_busy (staged h) (windowOpen hk hw)),
    fun h hk hw => answers (installCurveWork_installs (staged h) (free hk hw))⟩

end Sys2Proof.Machine
end

section
/-! SUPPORT. The bays and the truck table (chapters 5 and 6): what identifying a tag, opening a load and closing one make
of the state, each said once as the fields that change. -/

namespace Sys2Proof.Machine

/-! ### A bay and the bay beside it -/

/-- The pair with one thing at a bay and another at the bay beside it. -/
def Sides.of {α : Type} (d : Side) (here beside : α) : Sides α :=
  match d with
  | .left => ⟨here, beside⟩
  | .right => ⟨beside, here⟩

@[simp] theorem Sides.get_of_same {α : Type} (d : Side) (here beside : α) : (Sides.of d here beside).get d = here := by
  cases d <;> rfl

@[simp] theorem Sides.get_of_other {α : Type} (d : Side) (here beside : α) :
    (Sides.of d here beside).get d.other = beside := by cases d <;> rfl

/-- What holds of a bay and of the bay beside it holds of both. -/
theorem Side.forall_of (d : Side) {P : Side → Prop} (here : P d) (beside : P d.other) (e : Side) : P e := by
  cases d <;> cases e <;> assumption

/-- A change of one bay. -/
theorem State.modifyBay_eq (s : State) (d : Side) (f : Bay → Bay) :
    s.modifyBay d f = { s with bays := { s.bays with bay := .of d (f (s.bay d)) (s.bay d.other) } } := by
  cases d <;> rfl

/-! ### Identifying a tag (R103, R130 to R133) -/

/-- The way of a set that identifying a tag finds, or takes where one can be taken (R130 to R132). -/
def TruckSet.wayFor (t : TruckSet) (tag : Nat) : Option (Fin 4) := (t.find tag).or t.victim

/-- The entry whose figures a bay takes with a tag: the one found, seen now, or a new one with the profile's defaults
(R103, R130, R131). -/
def State.entryFor (s : State) (tag : Nat) : TruckEntry :=
  match s.trucks[setOf tag].find tag with
  | some w => { s.trucks[setOf tag].ways[w] with lastSeen := some s.clock }
  | none => allocated s.cal.profile s.clock tag

/-- The truck table once a tag has been identified (R130 to R132). -/
def State.trucksFor (s : State) (tag : Nat) : Vector TruckSet 8 :=
  match s.trucks[setOf tag].wayFor tag with
  | some w => s.trucks.set (setOf tag) ((s.trucks[setOf tag].put w (s.entryFor tag)).touch w)
  | none => s.trucks

/-- A bay that has taken a tag, with its reference and figures (R103). -/
def State.identified (s : State) (tag : Nat) (b : Bay) : Bay :=
  b.takeTruck tag ((s.trucks[setOf tag].wayFor tag).map fun w => ⟨setOf tag, w⟩) (s.entryFor tag).material
    (s.entryFor tag).target (s.entryFor tag).max

/-- The bay beside an identification, which can lose its reference (R133). -/
def State.besideTag (s : State) (tag : Nat) (b : Bay) : Bay := { b with ref := refBeside s.trucks tag b.ref }

/-- A bay whose reference, where it was to the given way's valid entry, is lost (R133). -/
def State.lostRef (s : State) (ref : TruckRef) (b : Bay) : Bay :=
  { b with ref := if (s.entry ref).valid = true ∧ b.ref = some ref then none else b.ref }

/-- A way that is taken costs the bays their references to its valid entry alone (R133). -/
theorem State.place_eq (s : State) (ref : TruckRef) (e : TruckEntry) : s.place ref e = { s with
    trucks := s.trucks.set ref.set ((s.trucks[ref.set].put ref.way e).touch ref.way)
    bays := { s.bays with bay := ⟨s.lostRef ref s.bays.bay.left, s.lostRef ref s.bays.bay.right⟩ } } := by
  have lost (b : Bay) (h : (s.entry ref).valid = true) :
      (if b.ref = some ref then { b with ref := none } else b) = s.lostRef ref b := by
    unfold State.lostRef
    split <;> simp_all
  have kept (b : Bay) (h : ¬(s.entry ref).valid = true) : s.lostRef ref b = b := by
    unfold State.lostRef
    simp [h]
  unfold State.place
  by_cases valid : (s.entry ref).valid = true
  · rw [if_pos valid, ← lost _ valid, ← lost _ valid]
    rfl
  · rw [if_neg valid, kept _ valid, kept _ valid]
    rfl

theorem State.identify_eq (s : State) (d : Side) (tag : Nat) : s.identify d tag = { s with
    trucks := s.trucksFor tag
    bays := { s.bays with bay := .of d (s.identified tag (s.bay d)) (s.besideTag tag (s.bay d.other)) } } := by
  unfold State.identify State.lookup State.trucksFor State.identified State.besideTag State.entryFor TruckSet.wayFor
    refBeside
  cases found : s.trucks[setOf tag].find tag with
  | some w => cases d <;> rfl
  | none =>
    cases taken : s.trucks[setOf tag].victim with
    | some w =>
      simp only [Option.map_none, Option.none_or, Option.map_some]
      rw [State.place_eq, State.modifyBay_eq]
      cases d <;> rfl
    | none => cases d <;> rfl

/-- The words of the statements, as this layer says them. -/
theorem State.identified_spec (s : State) (tag : Nat) {b : Bay}
    (hb : bayTakes b tag ((s.trucks[setOf tag].wayFor tag).map fun w => ⟨setOf tag, w⟩) (s.entryFor tag).material
      (s.entryFor tag).target (s.entryFor tag).max) :
    Identified s.cal.profile s.clock s.trucks (s.trucksFor tag) b tag := by
  unfold State.entryFor TruckSet.wayFor at hb
  unfold Identified State.trucksFor State.entryFor TruckSet.wayFor
  cases found : s.trucks[setOf tag].find tag with
  | some w =>
    rw [found] at hb
    exact ⟨hb, rfl⟩
  | none =>
    rw [found] at hb
    cases taken : s.trucks[setOf tag].victim with
    | some w =>
      rw [taken] at hb
      exact ⟨hb, rfl⟩
    | none =>
      rw [taken] at hb
      exact ⟨hb, rfl⟩

/-! ### Opening a load (R100, R103, R105) -/

/-- A bay in which a load has opened for a truck (R105). -/
def State.openedFor (s : State) (tag : Nat) (b : Bay) : Bay :=
  (s.identified tag { b with load := s.bays.nextLoad, opened := s.clock, passes := [], total := 0 }).restate

theorem State.openLoad_eq (s : State) (d : Side) : s.openLoad d = { s with bays := { s.bays with
    bay := .of d { s.bay d with load := s.bays.nextLoad, opened := s.clock, passes := [], total := 0 }
      (s.bay d.other)
    nextLoad := nextLoadAfter s.bays.nextLoad } } := by
  cases d <;> rfl

theorem State.openFor_eq (s : State) (d : Side) (tag : Nat) : s.openFor d tag = { s with
    trucks := s.trucksFor tag
    bays := { s.bays with
      bay := .of d (s.openedFor tag (s.bay d)) (s.besideTag tag (s.bay d.other))
      nextLoad := nextLoadAfter s.bays.nextLoad } } := by
  unfold State.openFor
  rw [State.openLoad_eq, State.identify_eq, State.modifyBay_eq]
  cases d <;> rfl

/-- A tag identified for a bay that holds a load, whose state is formed anew (R97, R106). -/
theorem State.readdress_eq (s : State) (d : Side) (tag : Nat) : (s.identify d tag).modifyBay d Bay.restate = { s with
    trucks := s.trucksFor tag
    bays := { s.bays with
      bay := .of d (s.identified tag (s.bay d)).restate (s.besideTag tag (s.bay d.other)) } } := by
  rw [State.identify_eq, State.modifyBay_eq]
  cases d <;> rfl

/-! ### Closing a load (R101, R114) -/

/-- The load number beside a close of a bay, and the next one after it (R101). -/
def State.numbersBeside (s : State) (d : Side) : Nat × Nat :=
  renumbered (s.bay d.other).load (s.bay d).load s.bays.nextLoad

theorem State.renumber_eq (s : State) (d : Side) (logged : Nat) : s.renumber d logged = { s with
    bays := { s.bays with
      bay := .of d { s.bay d with load := (renumbered (s.bay d).load logged s.bays.nextLoad).1 } (s.bay d.other)
      nextLoad := (renumbered (s.bay d).load logged s.bays.nextLoad).2 }
    tracker := { s.tracker with
      dumpRef := renumberedRef s.tracker.dumpRef d (s.bay d).load logged s.bays.nextLoad } } := by
  unfold State.renumber renumbered renumberedRef
  by_cases lower : (s.bay d).load ≠ 0 ∧ (s.bay d).load < logged
  · simp only [lower, if_true, and_self, and_true, ne_eq, not_false_iff]
    cases d <;> rfl
  · simp only [if_neg lower]
    have kept : (fun r : DumpRef => if r.side = d ∧ r.load = (s.bay d).load ∧ (s.bay d).load ≠ 0 ∧
        (s.bay d).load < logged then { r with load := s.bays.nextLoad } else r) = id := by
      funext r
      exact if_neg fun h => lower h.2.2
    rw [kept, Option.map_id]
    cases d <;> rfl

theorem State.append_load (s : State) (r : LoadRecord) : s.append (.load r) =
    { s with log := s.log.append (.load r), ports := (s.raise .logged).ports } := rfl

/-- A close is its log record, its notice, the trip, the counters, the emptied bay and the number beside it (R114). -/
theorem State.closeLoad_eq (s : State) (d : Side) (reason : CloseReason) : s.closeLoad d reason = { s with
    trucks := tripped s (s.bay d)
    log := s.log.append (.load (closing (s.bay d) d reason s))
    shift := { s.shift with counters := closedCounters s.shift.counters (s.bay d).total }
    bays := { s.bays with
      bay := .of d (s.bay d).cleared { s.bay d.other with load := (s.numbersBeside d).1 }
      nextLoad := (s.numbersBeside d).2 }
    tracker := { s.tracker with
      dumpRef := renumberedRef s.tracker.dumpRef d.other (s.bay d.other).load (s.bay d).load s.bays.nextLoad }
    ports := (s.raise .logged).ports } := by
  unfold State.closeLoad tripped State.numbersBeside
  dsimp only
  rw [State.append_load, State.renumber_eq]
  generalize (s.raise .logged).ports = ports
  cases (s.bay d).ref <;> cases d <;> rfl

/-! ### A truck that arrives (R104 to R106) -/

/-- The bay beside `d` does not hold the tag (R104, R107). -/
abbrev notBeside (s : State) (d : Side) (tag : Nat) : Prop :=
  ¬((s.bay d.other).state ≠ .empty ∧ (s.bay d.other).tag = some tag)

theorem heldOpposite_iff (s : State) (d : Side) (tag : Nat) :
    s.heldOpposite d tag = true ↔ (s.bay d.other).state ≠ .empty ∧ (s.bay d.other).tag = some tag := by
  simp [State.heldOpposite]

theorem heldOpposite_eq_false {s : State} {d : Side} {tag : Nat} (h : notBeside s d tag) :
    s.heldOpposite d tag = false := Bool.eq_false_iff.2 fun held => h ((heldOpposite_iff s d tag).1 held)

/-- A cross-read is counted, and nothing else (R104). -/
theorem State.tagEvent_crossRead {s : State} {e : TagEvent} (h : ¬notBeside s e.side e.tag) : s.tagEvent e =
    { s with bays := { s.bays with crossReads := satAdd max16 s.bays.crossReads 1 } } :=
  if_pos ((heldOpposite_iff s e.side e.tag).2 (not_not.1 h))

theorem State.tagEvent_arrives {s : State} {e : TagEvent} (h : notBeside s e.side e.tag) :
    s.tagEvent e = s.truckArrives e.side e.tag := if_neg (Bool.eq_false_iff.1 (heldOpposite_eq_false h))

theorem State.truckArrives_empty {s : State} {d : Side} (h : (s.bay d).state = .empty) (tag : Nat) :
    s.truckArrives d tag = s.openFor d tag := by
  unfold State.truckArrives
  dsimp only
  rw [h]

theorem State.truckArrives_same {s : State} {d : Side} {tag : Nat} (h : (s.bay d).state ≠ .empty)
    (ht : (s.bay d).tag = some tag) : s.truckArrives d tag = s := by
  unfold State.truckArrives
  dsimp only
  rw [ht]
  cases hs : (s.bay d).state <;> simp_all

/-- A READY bay replaces its truck, and an anonymous load adopts the tag (R106). -/
theorem State.truckArrives_readdressed {s : State} {d : Side} {tag : Nat}
    (h : ((s.bay d).state = .ready ∧ (s.bay d).tag ≠ some tag) ∨ ((s.bay d).state ≠ .empty ∧ (s.bay d).tag = none)) :
    s.truckArrives d tag = (s.identify d tag).modifyBay d Bay.restate := by
  have differs : (s.bay d).tag ≠ some tag := by
    rcases h with ⟨_, other⟩ | ⟨_, anonymous⟩
    · exact other
    · simp [anonymous]
  unfold State.truckArrives
  cases hs : (s.bay d).state <;> simp_all

theorem State.truckArrives_closes {s : State} {d : Side} {tag : Nat} (h : (s.bay d).state ≠ .empty)
    (hr : (s.bay d).state ≠ .ready) (hi : (s.bay d).tag.isSome) (ht : (s.bay d).tag ≠ some tag) :
    s.truckArrives d tag = (s.closeLoad d .newTruck).openFor d tag := by
  obtain ⟨held, holds⟩ := Option.isSome_iff_exists.1 hi
  have differs : held ≠ tag := fun same => ht (same ▸ holds)
  unfold State.truckArrives
  cases hs : (s.bay d).state <;> simp_all

/-- The four ways in which a truck can arrive, one for each row of R105 and R106. -/
theorem State.truckArrives_cases (s : State) (d : Side) (tag : Nat) :
    ((s.bay d).state = .empty ∧ s.truckArrives d tag = s.openFor d tag) ∨
    s.truckArrives d tag = s ∨
    ((s.bay d).state ≠ .empty ∧ s.truckArrives d tag = (s.identify d tag).modifyBay d Bay.restate) ∨
    ((s.bay d).state ≠ .empty ∧ (s.bay d).state ≠ .ready ∧
      s.truckArrives d tag = (s.closeLoad d .newTruck).openFor d tag) := by
  by_cases empty : (s.bay d).state = .empty
  · exact .inl ⟨empty, State.truckArrives_empty empty tag⟩
  by_cases same : (s.bay d).tag = some tag
  · exact .inr (.inl (State.truckArrives_same empty same))
  by_cases readdressed : (s.bay d).state = .ready ∨ (s.bay d).tag = none
  · refine .inr (.inr (.inl ⟨empty, State.truckArrives_readdressed ?_⟩))
    exact readdressed.imp (⟨·, same⟩) (⟨empty, ·⟩)
  · obtain ⟨ready, anonymous⟩ := not_or.1 readdressed
    exact .inr (.inr (.inr ⟨empty, ready,
      State.truckArrives_closes empty ready (Option.isSome_iff_ne_none.2 anonymous) same⟩))

/-- A truck that arrives raises nothing but the LOGGED of a close. -/
theorem State.truckArrives_ports (s : State) (d : Side) (tag : Nat) :
    (s.truckArrives d tag).ports = s.ports ∨ (s.truckArrives d tag).ports = (s.raise .logged).ports := by
  rcases s.truckArrives_cases d tag with ⟨_, h⟩ | h | ⟨_, h⟩ | ⟨_, _, h⟩ <;> rw [h]
  · rw [State.openFor_eq]
    exact .inl rfl
  · exact .inl rfl
  · rw [State.readdress_eq]
    exact .inl rfl
  · rw [State.openFor_eq, State.closeLoad_eq]
    exact .inr rfl

end Sys2Proof.Machine
end

section
/-! SUPPORT. What a command can do to the loads and the trucks (chapters 5 and 6, R147, R190), said once: it makes one
or two of twelve changes, restores a record, or leaves them. -/

namespace Sys2Proof.Machine

/-! ### The changes -/

/-- The bay records, the next load number, the truck table, the log's records and the profile are as they were. -/
structure sameLoads (s t : State) : Prop where
  bay : t.bays.bay = s.bays.bay
  nextLoad : t.bays.nextLoad = s.bays.nextLoad
  trucks : t.trucks = s.trucks
  records : t.log.records = s.log.records
  profile : t.cal.profile = s.cal.profile

theorem sameLoads.refl (s : State) : sameLoads s s := ⟨rfl, rfl, rfl, rfl, rfl⟩

theorem sameLoads.trans {s t u : State} (h : sameLoads s t) (h' : sameLoads t u) : sameLoads s u :=
  ⟨h'.bay.trans h.bay, h'.nextLoad.trans h.nextLoad, h'.trucks.trans h.trucks, h'.records.trans h.records,
    h'.profile.trans h.profile⟩

/-- The state in which a grant does its work: the item or the request is taken, and nothing else is changed that a load
or a truck depends on. -/
structure askedOf (s u : State) : Prop where
  loads : sameLoads s u
  fresh : u.arb.fresh = s.arb.fresh

/-- One change of the loads and the trucks. What `law` says of the state before the step bounds the figures that have
waited at the arbiter, and the load numbers. -/
inductive LoadChange (law : Prop) (s : State) : State → Prop
  | opensFor (d : Side) (tag : Nat) (empty : (s.bay d).state = .empty) (tagged : law → tagInRange tag)
      (differs : notBeside s d tag) : LoadChange law s (s.openFor d tag)
  | opensAnonymous (d : Side) (empty : (s.bay d).state = .empty) : LoadChange law s (s.openAnonymous d)
  | readdresses (d : Side) (tag : Nat) (loaded : (s.bay d).state ≠ .empty) (tagged : law → tagInRange tag)
      (differs : notBeside s d tag) : LoadChange law s ((s.identify d tag).modifyBay d Bay.restate)
  | commits (d : Side) (w : WindowResult) (cycleTime : Nat) (loaded : law → (s.bay d).state ≠ .empty)
      (lawful : law → w.lawful ∧ cycleTime ≤ max16) : LoadChange law s (s.commit d w cycleTime)
  | takesOff (d : Side) (index residue : Nat) : LoadChange law s (s.modifyBay d fun b =>
      b.withPasses (b.passes.modify index fun p => p.takeOff residue (s.fill (s.bay d).material)))
  | retargets (d : Side) (target max : Nat) (loaded : (s.bay d).state ≠ .empty) (figures : figuresInRange target max) :
      LoadChange law s (s.modifyBay d fun b => ({ b with target := target, max := max }).restate)
  | cancels (d : Side) : LoadChange law s (s.modifyBay d Bay.cleared)
  | closes (d : Side) (reason : CloseReason) (loaded : (s.bay d).state ≠ .empty) : LoadChange law s (s.closeLoad d reason)
  | writesTruck (tag target max : Nat) (material : Fin 16) (pinned : Bool) (way : Option (Fin 4))
      (figures : figuresInRange target max) :
      LoadChange law s (s.writeTruck tag target max material pinned way).1
  | dropsTruck (tag : Nat) (ref : TruckRef) (found : s.lookup tag = some ref) :
      LoadChange law s ((s.loseRef ref).modifySet ref.set fun t =>
        t.put ref.way { t.ways[ref.way] with valid := false })
  | endsShift (p : Port) : LoadChange law s (s.endShift p)
  | setsProfile (f : Profile) (figures : figuresInRange f.defTarget f.defMax) :
      LoadChange law s (s.modifyCal fun c => c.setProfile f)

/-- What the work of a grant does to the loads and the trucks. -/
inductive LoadWork (law : Prop) (s t : State) : Prop
  | leaves (same : sameLoads s t)
  | one (u : State) (change : LoadChange law s u) (same : sameLoads u t)
  | two (u v : State) (first : LoadChange law s u) (second : LoadChange law u v) (same : sameLoads v t)
  | restores (payload : List Byte) (r : RawSnapshot) (fresh : s.arb.fresh = true)
      (checked : checkSnapshot payload = .ok r) (same : sameLoads (s.restore r) t)

theorem LoadWork.refl (law : Prop) (s : State) : LoadWork law s s := .leaves (.refl s)

/-- Work that makes one change. -/
theorem LoadChange.work {law : Prop} {s t : State} (h : LoadChange law s t) : LoadWork law s t := .one t h (.refl t)

/-- What follows the work leaves the loads and the trucks. -/
theorem LoadWork.andThen {law : Prop} {s t u : State} (h : LoadWork law s t) (same : sameLoads t u) :
    LoadWork law s u := by
  cases h with
  | leaves before => exact .leaves (before.trans same)
  | one v change before => exact .one v change (before.trans same)
  | two v w first second before => exact .two v w first second (before.trans same)
  | restores payload r fresh checked before => exact .restores payload r fresh checked (before.trans same)

/-! ### The works of items -/

/-- A truck that arrives opens a load, readdresses the one there, or closes it and opens another (R104 to R106). -/
theorem State.truckArrives_work {law : Prop} {s : State} {d : Side} {tag : Nat} (tagged : law → tagInRange tag)
    (differs : notBeside s d tag) : LoadWork law s (s.truckArrives d tag) := by
  rcases s.truckArrives_cases d tag with ⟨empty, h⟩ | h | ⟨loaded, h⟩ | ⟨loaded, _, h⟩ <;> rw [h]
  · exact (LoadChange.opensFor d tag empty tagged differs).work
  · exact .refl law s
  · exact (LoadChange.readdresses d tag loaded tagged differs).work
  · refine .two _ _ (.closes d .newTruck loaded) (.opensFor d tag ?_ tagged ?_) (.refl _)
    · rw [State.closeLoad_eq]
      cases d <;> rfl
    · rw [State.closeLoad_eq]
      cases d <;> exact differs

theorem tagEventWork_work {law : Prop} {s : State} {i : Item} {f : State → State} (hf : tagEventWork i = some f)
    (lawful : law → i.lawful = true) : LoadWork law s (f s) := by
  cases i with
  | tag e =>
    cases hf
    change LoadWork law s (s.tagEvent e)
    by_cases differs : notBeside s e.side e.tag
    · rw [State.tagEvent_arrives differs]
      exact State.truckArrives_work (fun h => of_decide_eq_true (lawful h)) differs
    · rw [State.tagEvent_crossRead differs]
      exact .leaves ⟨rfl, rfl, rfl, rfl, rfl⟩
  | _ => cases hf

/-- A truck dump commits to the load in the bay, or to the anonymous load that it opens (R108). -/
theorem truckDumpWork_work {law : Prop} {s : State} {i : Item} {f : State → State} (hf : truckDumpWork i = some f)
    (lawful : law → i.lawful = true) (numbered : law → 1 ≤ s.bays.nextLoad) : LoadWork law s (f s) := by
  cases i with
  | truckDump w time choice dump =>
    cases hf
    have figures : law → w.lawful ∧ time ≤ max16 := fun h => of_decide_eq_true (lawful h)
    have counted : ∀ u : State, sameLoads u ((u.count fun c => c.truckDump w time).modifyTracker fun t =>
        t.takeRef ⟨s.resolve choice, ((s.ensureLoad (s.resolve choice)).bay (s.resolve choice)).load,
          commitIndex ((s.ensureLoad (s.resolve choice)).bay (s.resolve choice))⟩ dump) :=
      fun u => ⟨rfl, rfl, rfl, rfl, rfl⟩
    refine LoadWork.andThen ?_ (counted _)
    unfold State.ensureLoad
    split
    · rename_i empty
      refine .two _ _ (.opensAnonymous _ empty) (.commits _ w time (fun h => ?_) figures) (.refl _)
      have number := numbered h
      rw [State.openAnonymous_eq]
      cases s.resolve choice <;>
        simp [State.bay, Sides.get, Sides.modify, State.anonymousBay, Bay.restate, bayStateFor] <;> omega
    · rename_i loaded
      exact (LoadChange.commits _ w time (fun _ => loaded) figures).work
  | _ => cases hf

theorem residueWork_work {law : Prop} {s : State} {i : Item} {f : State → State} (hf : residueWork i = some f) :
    LoadWork law s (f s) := by
  cases i with
  | residue r ref =>
    cases hf
    unfold State.applyResidue
    dsimp only
    split
    · exact .one _ (.takesOff ref.side (ref.index - 1) r) ⟨rfl, rfl, rfl, rfl, rfl⟩
    · exact .leaves ⟨rfl, rfl, rfl, rfl, rfl⟩
  | _ => cases hf

/-! ### The works of requests -/

theorem targetOk_iff {target : Nat} : targetOk target = true ↔ 1000 ≤ target ∧ target ≤ 60000 := by
  simp [targetOk]

theorem maxOk_iff {target max : Nat} : maxOk target max = true ↔ (1000 ≤ max ∧ max ≤ 60000) ∧ target ≤ max := by
  simp [maxOk]

/-- The two checks of a target and its max, passed (R116, R134). -/
theorem figuresInRange_of_checks {target max : Nat} (ht : ¬(!targetOk target) = true)
    (hm : ¬(!maxOk target max) = true) : figuresInRange target max := by
  rw [Bool.not_eq_true, Bool.not_eq_false'] at ht hm
  obtain ⟨low, _⟩ := targetOk_iff.1 ht
  obtain ⟨⟨_, high⟩, ordered⟩ := maxOk_iff.1 hm
  exact ⟨low, ordered, high⟩

theorem assignTruckWork_work (law : Prop) (payload : List Byte) (s : State) :
    LoadWork law s (assignTruckWork payload s).1 := by
  have stays := LoadWork.refl law s
  have bound := natAt_lt payload 1 3
  unfold assignTruckWork
  dsimp only
  split
  · exact stays
  split
  · exact stays
  rename_i positive
  split
  · exact stays
  split
  · exact stays
  rename_i differs
  split
  · exact stays
  · exact State.truckArrives_work (fun _ => ⟨Nat.one_le_iff_ne_zero.2 positive, by omega⟩)
      fun held => differs ((heldOpposite_iff s _ _).2 held)

theorem closeLoadWork_work (law : Prop) (p : Port) (payload : List Byte) (s : State) :
    LoadWork law s (closeLoadWork p payload s).1 := by
  have stays := LoadWork.refl law s
  unfold closeLoadWork
  dsimp only
  split
  · exact stays
  · split
    · exact stays
    · split <;> [exact (LoadChange.cancels _).work; exact stays]
    all_goals
      rename_i held
      split <;> [exact (LoadChange.closes _ _ (by simp [held])).work; exact stays]

theorem setLoadTargetWork_work (law : Prop) (payload : List Byte) (s : State) :
    LoadWork law s (setLoadTargetWork payload s).1 := by
  have stays := LoadWork.refl law s
  unfold setLoadTargetWork
  dsimp only
  split
  · exact stays
  split
  · exact stays
  rename_i target
  split
  · exact stays
  rename_i max
  split
  · exact stays
  rename_i named
  exact (LoadChange.retargets _ _ _ (fun empty => named (.inl empty)) (figuresInRange_of_checks target max)).work

theorem selectBayWork_work (law : Prop) (payload : List Byte) (s : State) :
    LoadWork law s (selectBayWork payload s).1 := by
  unfold selectBayWork
  split <;> exact .leaves ⟨rfl, rfl, rfl, rfl, rfl⟩

theorem endShiftWork_work (law : Prop) (p : Port) (payload : List Byte) (s : State) :
    LoadWork law s (endShiftWork p payload s).1 := by
  unfold endShiftWork
  split
  · exact (LoadChange.endsShift p).work
  · exact .refl law s

theorem writeTruckWork_work (law : Prop) (payload : List Byte) (s : State) :
    LoadWork law s (writeTruckWork payload s).1 := by
  have stays := LoadWork.refl law s
  unfold writeTruckWork
  dsimp only
  split
  · exact stays
  split
  · exact stays
  rename_i target
  split
  · exact stays
  rename_i max
  split
  · split
    · exact stays
    · exact stays
    · exact (LoadChange.writesTruck _ _ _ _ _ _ (figuresInRange_of_checks target max)).work
  · exact stays

theorem dropTruckWork_work (law : Prop) (payload : List Byte) (s : State) :
    LoadWork law s (dropTruckWork payload s).1 := by
  unfold dropTruckWork
  dsimp only
  split
  · exact .refl law s
  · split
    · exact (LoadChange.dropsTruck _ _ ‹_›).work
    · exact .refl law s

/-- The default figures of a profile that keeps R89. -/
theorem Profile.lawful.figures {f : Profile} (h : f.lawful) : figuresInRange f.defTarget f.defMax := by
  tauto

theorem setProfileWork_work (law : Prop) (payload : List Byte) (s : State) :
    LoadWork law s (setProfileWork payload s).1 := by
  unfold setProfileWork
  split
  · exact .refl law s
  · rename_i passed
    split
    · exact .refl law s
    · obtain ⟨lawful, _⟩ := (profileChecks_pass_iff payload s.materials).1 passed
      exact (LoadChange.setsProfile _ lawful.figures).work

theorem restoreSnapshotWork_work (law : Prop) (payload : List Byte) (s : State) :
    LoadWork law s (restoreSnapshotWork payload s).1 := by
  unfold restoreSnapshotWork
  split
  · split
    · exact .refl law s
    · exact .restores payload _ ‹_› ‹_› (.refl _)
  · exact .refl law s

/-! ### The grants -/

/-- What a command has done to the loads and the trucks, once its grant has ended: the work of a grant, on the state in
which it was asked. -/
abbrev loadsWorked (s t : State) : Prop := ∃ u, askedOf s u ∧ LoadWork (BayLaw s) u t

theorem loadsWorked.refl (s : State) : loadsWorked s s := ⟨s, ⟨.refl s, rfl⟩, .refl _ s⟩

theorem loadsWorked.of_same {s t : State} (h : sameLoads s t) : loadsWorked s t :=
  ⟨s, ⟨.refl s, rfl⟩, .leaves h⟩

/-- The end of a grant leaves the loads and the trucks. -/
theorem sameLoads_settle (pre s : State) : sameLoads s (pre.settle s) := by
  constructor <;> simp

theorem sameLoads_raise (s : State) (n : Notice) : sameLoads s (s.raise n) := by
  constructor <;> simp

/-- A commit changes its bay, and raises PASS (R109, R110). -/
theorem sameLoads_commit (s : State) (d : Side) (w : WindowResult) (cycleTime : Nat) :
    sameLoads (s.modifyBay d fun b =>
      b.withPasses (committedPasses b.passes w (s.fill (s.bay d).material) cycleTime s.clock))
      (s.commit d w cycleTime) := by
  unfold State.commit
  exact sameLoads_raise _ _

theorem sameLoads_answer (s : State) (p : Port) (a : Answer) : sameLoads s (s.answer p a) := by
  constructor <;> simp

theorem grantRequest_loads {k : ReqKind} {p : Port} {calen : Option Bool} {work : List Byte → State → State × Reply}
    (hw : ∀ (law : Prop) payload u, LoadWork law u (work payload u).1) (s : State) :
    ∃ t, grantRequest k p calen work s = .next t ∧ loadsWorked s t := by
  have asked : askedOf s ((s.dropRequest p).readCalen calen) :=
    ⟨by constructor <;> simp, by simp⟩
  have ended : ∀ (u : State) (a : Answer), sameLoads u ((s.settle u).answer p a) := fun u a =>
    (sameLoads_settle s u).trans (sameLoads_answer _ p a)
  refine grantRequest_keeps (.refl s) (fun r a _ _ => ⟨_, asked, .leaves (ended _ a)⟩) fun r _ _ _ _ _ => ?_
  exact ⟨_, asked, (hw _ r.payload _).andThen (ended _ _)⟩

theorem grantItem_loads {work : Item → Option (State → State)} {s : State}
    (hw : ∀ i f, work i = some f → (BayLaw s → i.lawful = true) →
      (BayLaw s → 1 ≤ s.dropItem.bays.nextLoad) → LoadWork (BayLaw s) s.dropItem (f s.dropItem)) :
    ∃ t, grantItem work s = .next t ∧ loadsWorked s t := by
  refine grantItem_keeps (.refl s) fun i f _ hi hf => ?_
  have lawful : BayLaw s → i.lawful = true := fun ⟨_, _, _, _, _, _, _, items, _⟩ =>
    items i (List.mem_of_mem_head? hi)
  have numbered : BayLaw s → 1 ≤ s.dropItem.bays.nextLoad := fun ⟨_, _, _, number, _⟩ => number
  exact ⟨s.dropItem, ⟨⟨rfl, rfl, rfl, rfl, rfl⟩, rfl⟩,
    (hw i f hf lawful numbered).andThen (sameLoads_settle s _)⟩

/-- What a command that is no reset does to the loads and the trucks. -/
theorem exec_loads {c : Instr} (hr : c.resets = false) (s : State) :
    ∃ t, exec c s = .next t ∧ loadsWorked s t := by
  by_cases hw : c.writesBays = false ∧ c.writesTrucks = false ∧ c.writesLog = false ∧ c.writesProfile = false
  · obtain ⟨hbays, htrucks, hlog, hprofile⟩ := hw
    obtain ⟨t, ht, others⟩ := exec_leavesOthers hr s
    have bays : t.bays = s.bays := others .bays hbays
    have log : t.log = s.log := others .log hlog
    exact ⟨t, ht, .of_same ⟨congrArg _ bays, congrArg _ bays, others .trucks htrucks, congrArg _ log,
      others .profile hprofile⟩⟩
  cases c <;> simp only [Instr.writesBays, Instr.writesTrucks, Instr.writesLog, Instr.writesProfile,
    Instr.bringsTruck, Bool.false_or, Bool.or_self, Bool.true_or, Bool.true_eq_false, and_self, and_false, false_and,
    not_true_eq_false] at hw
  case tagEvent => exact grantItem_loads fun i f hf lawful _ => tagEventWork_work hf lawful
  case truckDump => exact grantItem_loads fun i f hf lawful numbered => truckDumpWork_work hf lawful numbered
  case residue => exact grantItem_loads fun i f hf _ _ => residueWork_work hf
  case nextRecord p => exact grantRequest_loads (fun _ _ _ => .leaves ⟨rfl, rfl, rfl, rfl, rfl⟩) s
  case selectBay p => exact grantRequest_loads selectBayWork_work s
  case assignTruck p => exact grantRequest_loads assignTruckWork_work s
  case closeLoad p => exact grantRequest_loads (fun law => closeLoadWork_work law p) s
  case setLoadTarget p => exact grantRequest_loads setLoadTargetWork_work s
  case endShift p => exact grantRequest_loads (fun law => endShiftWork_work law p) s
  case restoreSnapshot p => exact grantRequest_loads restoreSnapshotWork_work s
  case writeTruck p => exact grantRequest_loads writeTruckWork_work s
  case dropTruck p => exact grantRequest_loads dropTruckWork_work s
  case setProfile p calen => exact grantRequest_loads setProfileWork_work s

end Sys2Proof.Machine
end

section
/-! Every step keeps the truck table in order and the bays' references valid (R117, R126). -/

namespace Sys2Proof.Machine

/-! ### Resets -/

/-- What the defaults have, and what the fall and the rise of RESET_N keep, every reset keeps (R165, R166). -/
theorem exec_reset_keeps {P : State → Prop} {c : Instr} {s : State} (hr : c.resets = true) (h : P s)
    (defaults : ∀ (u : State) power, P (u.powerOnDefaults power)) (pins : ∀ u x, P u → P { u with pins := x })
    (drops : ∀ u, P u → P u.dropWork) (pin : ∀ u, P u → P u.pinReset) : ∃ t, exec c s = .next t ∧ P t := by
  cases c <;> simp only [Instr.resets, Bool.false_eq_true] at hr
  case powerOnReset => exact ⟨_, rfl, defaults _ _⟩
  case powerCollapse => exact ⟨_, rfl, defaults _ _⟩
  case pinReset =>
    have low := pins s { s.pins with resetLow := true } h
    simp only [exec, execPinReset]
    split <;> [exact ⟨_, rfl, drops _ low⟩; exact ⟨_, rfl, low⟩; exact ⟨_, rfl, low⟩]
  case pinResetRelease =>
    have high := pins s { s.pins with resetLow := false } h
    simp only [exec, execPinResetRelease]
    split <;> [exact ⟨_, rfl, pin _ high⟩; exact ⟨_, rfl, defaults _ _⟩; exact ⟨_, rfl, high⟩; exact ⟨_, rfl, high⟩]

/-! ### Reading the table -/

/-- A written entry, and every other one. -/
theorem getElem_put (trucks : Vector TruckSet 8) (ref : TruckRef) (e : TruckEntry) (i : Fin 8) (w : Fin 4) :
    (trucks.set ref.set (trucks[ref.set].put ref.way e))[i].ways[w] =
      if ref = ⟨i, w⟩ then e else trucks[i].ways[w] := by
  obtain ⟨j, v⟩ := ref
  simp only [TruckRef.mk.injEq]
  by_cases hi : j = i
  · subst hi
    simp [TruckSet.put, Vector.getElem_set, Fin.ext_iff]
  · simp [hi, ← Fin.ext_iff]

/-- Touching a way leaves the entries (R128). -/
@[simp] theorem TruckSet.touch_ways (t : TruckSet) (w : Fin 4) : (t.touch w).ways = t.ways := by
  unfold TruckSet.touch
  split <;> rfl

theorem getElem_put_touch (trucks : Vector TruckSet 8) (ref : TruckRef) (e : TruckEntry) (i : Fin 8) (w : Fin 4) :
    (trucks.set ref.set ((trucks[ref.set].put ref.way e).touch ref.way))[i].ways[w] =
      if ref = ⟨i, w⟩ then e else trucks[i].ways[w] := by
  rw [← getElem_put]
  simp only [Fin.getElem_fin, Vector.getElem_set]
  split <;> simp

theorem mem_allWays (w : Fin 4) : w ∈ allWays := by revert w; decide

/-- A lookup finds a valid entry that holds the tag (R130). -/
theorem TruckSet.find_spec {t : TruckSet} {tag : Nat} {w : Fin 4} (h : t.find tag = some w) :
    t.ways[w].valid = true ∧ t.ways[w].tag = tag := by
  simpa using List.find?_some h

/-- A lookup that fails has met no valid entry that holds the tag (R130). -/
theorem TruckSet.tag_ne_of_find {t : TruckSet} {tag : Nat} (h : t.find tag = none) {w : Fin 4}
    (valid : t.ways[w].valid = true) : t.ways[w].tag ≠ tag := by
  have missed : t.ways[w].valid = true → t.ways[w].tag ≠ tag := by
    simpa using List.find?_eq_none.1 h w (mem_allWays w)
  exact missed valid

/-! ### Changes of the table -/

/-- Which entries are valid, and the tags of all, are as they were. -/
abbrev sameTags (trucks trucks' : Vector TruckSet 8) : Prop :=
  ∀ (i : Fin 8) (w : Fin 4), trucks'[i].ways[w].valid = trucks[i].ways[w].valid ∧
    trucks'[i].ways[w].tag = trucks[i].ways[w].tag

theorem sameTags.refl (trucks : Vector TruckSet 8) : sameTags trucks trucks := fun _ _ => ⟨rfl, rfl⟩

theorem tableInOrder.congr {trucks trucks' : Vector TruckSet 8} (h : tableInOrder trucks)
    (same : sameTags trucks trucks') : tableInOrder trucks' := by
  intro i w valid
  rw [(same i w).1] at valid
  obtain ⟨set, unique⟩ := h i w valid
  rw [(same i w).2]
  refine ⟨set, fun v hv ht => unique v ?_ ?_⟩
  · rwa [(same i v).1] at hv
  · rwa [(same i v).2] at ht

theorem refHolds.congr {b b' : Bay} {trucks trucks' : Vector TruckSet 8} (h : refHolds b trucks)
    (same : sameTags trucks trucks') (hb : b'.ref = none ∨ b'.ref = b.ref ∧ b'.tag = b.tag) : refHolds b' trucks' := by
  intro ref hr
  obtain none | ⟨href, htag⟩ := hb
  · rw [none] at hr
    cases hr
  · obtain ⟨valid, tag⟩ := h ref (href ▸ hr)
    rw [(same _ _).1, (same _ _).2, htag]
    exact ⟨valid, tag⟩

/-- An entry that keeps its validity and its tag. -/
theorem sameTags_put {trucks trucks' : Vector TruckSet 8} {ref : TruckRef} {e : TruckEntry}
    (ht : ∀ (i : Fin 8) (w : Fin 4), trucks'[i].ways[w] = if ref = ⟨i, w⟩ then e else trucks[i].ways[w])
    (valid : e.valid = trucks[ref.set].ways[ref.way].valid) (tag : e.tag = trucks[ref.set].ways[ref.way].tag) :
    sameTags trucks trucks' := by
  intro i w
  rw [ht]
  split
  · rename_i same
    subst same
    exact ⟨valid, tag⟩
  · exact ⟨rfl, rfl⟩

/-- A way taken for a tag that the table lacks (R126, R131, R136). -/
theorem tableInOrder.place {trucks : Vector TruckSet 8} (h : tableInOrder trucks) {tag : Nat}
    (missing : trucks[setOf tag].find tag = none) (w : Fin 4) {e : TruckEntry} (he : e.tag = tag) :
    tableInOrder (trucks.set (setOf tag) ((trucks[setOf tag].put w e).touch w)) := by
  have entry := getElem_put_touch trucks ⟨setOf tag, w⟩ e
  dsimp only at entry
  intro i v
  rw [entry]
  split
  · rename_i same
    cases same
    refine fun _ => ⟨congrArg (· % 8) he, fun u hu ht => ?_⟩
    rw [entry] at hu ht
    split at hu
    · cases ‹TruckRef.mk _ _ = _›
      rfl
    · rename_i other
      rw [if_neg other] at ht
      exact absurd (ht.trans he) (TruckSet.tag_ne_of_find missing hu)
  · rename_i other
    intro valid
    obtain ⟨set, unique⟩ := h i v valid
    refine ⟨set, fun u hu ht => ?_⟩
    rw [entry] at hu ht
    split at hu
    · rename_i same
      cases same
      rw [if_pos rfl, he] at ht
      exact absurd ht.symm (TruckSet.tag_ne_of_find missing valid)
    · rename_i other'
      rw [if_neg other'] at ht
      exact unique u hu ht

/-- A bay that loses its reference to the way taken refers to another entry, if to any (R133). -/
theorem refHolds.place {s : State} {b : Bay} (h : refHolds b s.trucks) (ref : TruckRef) (e : TruckEntry) :
    refHolds (s.lostRef ref b) (s.trucks.set ref.set ((s.trucks[ref.set].put ref.way e).touch ref.way)) := by
  intro r hr
  have kept : ¬((s.entry ref).valid = true ∧ b.ref = some ref) := fun lost => by
    simp only [State.lostRef, if_pos lost, Option.mem_def, reduceCtorEq] at hr
  have held : b.ref = some r := by simpa only [State.lostRef, if_neg kept, Option.mem_def] using hr
  obtain ⟨valid, tag⟩ := h r held
  have other : ref ≠ ⟨r.set, r.way⟩ := by
    rintro rfl
    exact kept ⟨valid, held⟩
  rw [getElem_put_touch, if_neg other]
  exact ⟨valid, tag⟩

/-! ### The changes of the loads and the trucks -/

theorem truckLaw_iff (s : State) : TruckLaw s ↔ tableInOrder s.trucks ∧ ∀ d, refHolds (s.bay d) s.trucks :=
  and_congr_right fun _ => ⟨fun ⟨left, right⟩ d => by cases d <;> assumption, fun h => ⟨h .left, h .right⟩⟩

/-- Entries keep their validity and their tags, and a bay its reference with its tag, or it has none. -/
theorem TruckLaw.congr {s t : State} (h : TruckLaw s) (same : sameTags s.trucks t.trucks)
    (hb : ∀ d, (t.bay d).ref = none ∨ (t.bay d).ref = (s.bay d).ref ∧ (t.bay d).tag = (s.bay d).tag) :
    TruckLaw t := by
  obtain ⟨order, refs⟩ := (truckLaw_iff s).1 h
  exact (truckLaw_iff t).2 ⟨order.congr same, fun d => (refs d).congr same (hb d)⟩

theorem TruckLaw.of_same {s t : State} (h : TruckLaw s) (same : sameLoads s t) : TruckLaw t := by
  refine h.congr (same.trucks ▸ .refl _) fun d => .inr ?_
  unfold State.bay
  rw [same.bay]
  exact ⟨rfl, rfl⟩

/-- A change of one bay that gives it no reference. -/
theorem TruckLaw.modifyBay {s : State} (h : TruckLaw s) (d : Side) {f : Bay → Bay}
    (hf : ∀ b, (f b).ref = none ∨ (f b).ref = b.ref ∧ (f b).tag = b.tag) : TruckLaw (s.modifyBay d f) := by
  refine h.congr (.refl _) (Side.forall_of d ?_ ?_)
  · cases d <;> exact hf _
  · cases d <;> exact .inr ⟨rfl, rfl⟩

theorem State.entryFor_spec (s : State) (tag : Nat) :
    (s.entryFor tag).valid = true ∧ (s.entryFor tag).tag = tag := by
  unfold State.entryFor
  split
  · exact TruckSet.find_spec ‹_›
  · exact ⟨rfl, rfl⟩

theorem State.trucksFor_eq {s : State} {tag : Nat} {w : Fin 4} (h : s.trucks[setOf tag].wayFor tag = some w) :
    s.trucksFor tag = s.trucks.set (setOf tag) ((s.trucks[setOf tag].put w (s.entryFor tag)).touch w) := by
  unfold State.trucksFor
  rw [h]

theorem State.trucksFor_full {s : State} {tag : Nat} (h : s.trucks[setOf tag].wayFor tag = none) :
    s.trucksFor tag = s.trucks := by
  unfold State.trucksFor
  rw [h]

/-- The bay for which a tag is identified refers to the entry that holds it (R117). -/
theorem refHolds_identified (s : State) (tag : Nat) (b : Bay) : refHolds (s.identified tag b) (s.trucksFor tag) := by
  obtain ⟨valid, holds⟩ := s.entryFor_spec tag
  intro ref hr
  obtain ⟨w, way, rfl⟩ := Option.map_eq_some_iff.1 hr
  rw [State.trucksFor_eq way, getElem_put_touch s.trucks ⟨setOf tag, w⟩, if_pos rfl]
  exact ⟨valid, congrArg some holds.symm⟩

/-- The table and a bay beside, when a tag is identified (R126, R130 to R133). -/
theorem TruckLaw.identified {s : State} (h : TruckLaw s) (tag : Nat) :
    tableInOrder (s.trucksFor tag) ∧ ∀ d, refHolds (s.besideTag tag (s.bay d)) (s.trucksFor tag) := by
  obtain ⟨order, refs⟩ := (truckLaw_iff s).1 h
  have holds : (s.entryFor tag).tag = tag := (s.entryFor_spec tag).2
  cases found : s.trucks[setOf tag].find tag with
  | some w =>
    have entry : s.entryFor tag = { s.trucks[setOf tag].ways[w] with lastSeen := some s.clock } := by
      simp only [State.entryFor, found]
    have same : sameTags s.trucks (s.trucksFor tag) := by
      rw [State.trucksFor_eq (w := w) (by simp only [TruckSet.wayFor, found, Option.some_or]), entry]
      exact sameTags_put (getElem_put_touch s.trucks ⟨setOf tag, w⟩ _) rfl rfl
    refine ⟨order.congr same, fun d => (refs d).congr same (.inr ⟨?_, rfl⟩)⟩
    simp only [State.besideTag, refBeside, found]
  | none =>
    cases taken : s.trucks[setOf tag].victim with
    | some w =>
      rw [State.trucksFor_eq (w := w) (by simp only [TruckSet.wayFor, found, taken, Option.none_or])]
      refine ⟨order.place found w holds, fun d => ?_⟩
      have lost : s.besideTag tag (s.bay d) = s.lostRef ⟨setOf tag, w⟩ (s.bay d) := by
        simp only [State.besideTag, refBeside, found, taken]
        rfl
      rw [lost]
      exact (refs d).place ⟨setOf tag, w⟩ _
    | none =>
      rw [State.trucksFor_full (by simp only [TruckSet.wayFor, found, taken, Option.none_or])]
      refine ⟨order, fun d => (refs d).congr (.refl _) (.inr ⟨?_, rfl⟩)⟩
      simp only [State.besideTag, refBeside, found, taken]

theorem sameTags_tripped (s : State) (b : Bay) : sameTags s.trucks (tripped s b) := by
  unfold tripped
  split
  · exact .refl _
  · exact sameTags_put (getElem_put s.trucks _ _) rfl rfl

/-- A way taken for a dispatcher's truck (R136). -/
theorem TruckLaw.place {s : State} (h : TruckLaw s) {tag : Nat} (missing : s.trucks[setOf tag].find tag = none)
    (w : Fin 4) {e : TruckEntry} (he : e.tag = tag) : TruckLaw (s.place ⟨setOf tag, w⟩ e) := by
  obtain ⟨order, refs⟩ := (truckLaw_iff s).1 h
  rw [State.place_eq]
  exact ⟨order.place missing w he, (refs .left).place _ e, (refs .right).place _ e⟩

theorem TruckLaw.writeTruck {s : State} (h : TruckLaw s) (tag target max : Nat) (material : Fin 16) (pinned : Bool)
    (way : Option (Fin 4)) : TruckLaw (s.writeTruck tag target max material pinned way).1 := by
  unfold State.writeTruck
  split
  · rename_i ref _
    exact h.congr (sameTags_put (getElem_put_touch s.trucks ref _) rfl rfl) fun _ => .inr ⟨rfl, rfl⟩
  · rename_i missing
    split
    · exact h.place (Option.map_eq_none_iff.1 missing) _ rfl
    · exact h

/-- An entry that is dropped loses the bays that referred to it (R137). -/
theorem TruckLaw.dropTruck {s : State} (h : TruckLaw s) (ref : TruckRef) :
    TruckLaw ((s.loseRef ref).modifySet ref.set fun t =>
      t.put ref.way { t.ways[ref.way] with valid := false }) := by
  obtain ⟨order, refs⟩ := (truckLaw_iff s).1 h
  have entry := getElem_put s.trucks ref { s.trucks[ref.set].ways[ref.way] with valid := false }
  have invalid : ∀ {i : Fin 8} {w : Fin 4}, (if ref = ⟨i, w⟩ then
      { s.trucks[ref.set].ways[ref.way] with valid := false } else s.trucks[i].ways[w]).valid = true →
        ref ≠ ⟨i, w⟩ := by
    intro i w hv same
    rw [if_pos same] at hv
    cases hv
  have table : tableInOrder (s.trucks.set ref.set
      (s.trucks[ref.set].put ref.way { s.trucks[ref.set].ways[ref.way] with valid := false })) := by
    intro i w hv
    have other := invalid (entry i w ▸ hv)
    rw [entry, if_neg other] at hv ⊢
    obtain ⟨set, unique⟩ := order i w hv
    refine ⟨set, fun v hv' ht => ?_⟩
    have other' := invalid (entry i v ▸ hv')
    rw [entry, if_neg other'] at hv' ht
    exact unique v hv' ht
  have lost : ∀ b : Bay, refHolds b s.trucks → refHolds (b.loseRef ref) (s.trucks.set ref.set
      (s.trucks[ref.set].put ref.way { s.trucks[ref.set].ways[ref.way] with valid := false })) := by
    intro b hb r hr
    unfold Bay.loseRef at hr ⊢
    split at hr
    · cases hr
    · rename_i kept
      have other : ref ≠ ⟨r.set, r.way⟩ := fun same => kept (hr.trans (congrArg some same.symm))
      rw [entry, if_neg other, if_neg kept]
      exact hb r hr
  exact ⟨table, lost _ (refs .left), lost _ (refs .right)⟩

theorem TruckLaw.change {law : Prop} {s t : State} (h : TruckLaw s) (hc : LoadChange law s t) : TruckLaw t := by
  cases hc with
  | opensFor d tag =>
    obtain ⟨table, beside⟩ := h.identified tag
    have here := refHolds_identified s tag (s.bay d)
    rw [State.openFor_eq]
    refine (truckLaw_iff _).2 ⟨table, Side.forall_of d ?_ ?_⟩
    · cases d <;> exact here.congr (.refl _) (.inr ⟨rfl, rfl⟩)
    · cases d <;> exact beside _
  | readdresses d tag =>
    obtain ⟨table, beside⟩ := h.identified tag
    have here := refHolds_identified s tag (s.bay d)
    rw [State.readdress_eq]
    refine (truckLaw_iff _).2 ⟨table, Side.forall_of d ?_ ?_⟩
    · cases d <;> exact here.congr (.refl _) (.inr ⟨rfl, rfl⟩)
    · cases d <;> exact beside _
  | opensAnonymous d =>
    rw [State.openAnonymous_eq]
    refine h.congr (.refl _) (Side.forall_of d ?_ ?_)
    · cases d <;> exact .inl rfl
    · cases d <;> exact .inr ⟨rfl, rfl⟩
  | commits d w time =>
    refine TruckLaw.of_same ?_ (sameLoads_commit s d w time)
    exact h.modifyBay d fun b => .inr ⟨rfl, rfl⟩
  | takesOff d => exact h.modifyBay d fun b => .inr ⟨rfl, rfl⟩
  | retargets d => exact h.modifyBay d fun b => .inr ⟨rfl, rfl⟩
  | cancels d => exact h.modifyBay d fun b => .inl rfl
  | closes d =>
    rw [State.closeLoad_eq]
    refine h.congr (sameTags_tripped s _) (Side.forall_of d ?_ ?_)
    · cases d <;> exact .inl rfl
    · cases d <;> exact .inr ⟨rfl, rfl⟩
  | writesTruck => exact h.writeTruck _ _ _ _ _ _
  | dropsTruck _ ref => exact h.dropTruck ref
  | endsShift p => exact h.congr (.refl _) fun d => .inr ⟨rfl, rfl⟩
  | setsProfile => exact h

/-- A restored bay refers to what a lookup finds (R190, R191). -/
theorem TruckLaw.restore {s : State} (h : TruckLaw s) (r : RawSnapshot) : TruckLaw (s.restore r) := by
  have restored : ∀ b : RawBay, refHolds (b.toBay s.lookup) s.trucks := by
    intro b ref hr
    simp only [RawBay.toBay, State.lookup, Option.mem_def] at hr ⊢
    split at hr
    · cases hr
    · obtain ⟨tag, htag, found⟩ := Option.bind_eq_some_iff.1 hr
      obtain ⟨w, hw, rfl⟩ := Option.map_eq_some_iff.1 found
      obtain ⟨valid, holds⟩ := TruckSet.find_spec hw
      exact ⟨valid, by rw [htag, holds]⟩
  obtain ⟨order, _⟩ := h
  exact ⟨order, restored r.left, restored r.right⟩

theorem TruckLaw.work {law : Prop} {s t : State} (h : TruckLaw s) (hw : LoadWork law s t) : TruckLaw t := by
  cases hw with
  | leaves same => exact h.of_same same
  | one u change same => exact (h.change change).of_same same
  | two u v first second same => exact ((h.change first).change second).of_same same
  | restores _ r _ _ same => exact (h.restore r).of_same same

/-- Settles O53: a reset aside, each change of the loads and the trucks leaves the entries' tags, or takes or clears one
way and with it the references to it. -/
theorem stepsKeepTruckTable : Obligations.StepsKeepTruckTable := by
  intro s t h hs
  refine step_keeps (P := TruckLaw) (fun _ _ hu => hu) (fun c u hu => ?_) h hs
  by_cases hr : c.resets = true
  · refine exec_reset_keeps hr hu (fun _ _ => reset_truckLaw) (fun _ _ h => h) (fun _ h => h) fun v hv => ?_
    exact hv.congr (.refl _) fun d => .inl (by cases d <;> rfl)
  · obtain ⟨v, hv, w, asked, worked⟩ := exec_loads (Bool.eq_false_iff.2 hr) u
    exact ⟨v, hv, (hu.of_same asked.loads).work worked⟩

end Sys2Proof.Machine
end

section
/-! Every step keeps the targets and maxima of bays, truck entries and profile in range (R89, R96, R125). -/

namespace Sys2Proof.Machine

/-! ### A checked record (R188, R189) -/

/-- A bay of a record has passed V3 to V6. -/
structure RawBay.checked (b : RawBay) : Prop where
  shape : b.shapeOk = true
  load : b.loadOk = true
  passes : b.passesOk = true
  figures : b.figuresOk = true

/-- A record that fails none of V3 to V9 has passed each. -/
theorem RawSnapshot.checked_of_failing {r : RawSnapshot} (h : r.failing = none) :
    r.left.checked ∧ r.right.checked ∧ r.numbersOk = true ∧ r.restOk = true := by
  unfold RawSnapshot.failing at h
  simp only [Bool.not_eq_true', Bool.and_eq_false_iff, ite_eq_right_iff, reduceCtorEq, imp_false, not_or,
    Bool.not_eq_false, ite_eq_iff, false_or, and_false] at h
  obtain ⟨⟨shapeL, shapeR⟩, ⟨loadL, loadR⟩, ⟨passesL, passesR⟩, ⟨figuresL, figuresR⟩, numbers, _, rest⟩ := h
  exact ⟨⟨shapeL, loadL, passesL, figuresL⟩, ⟨shapeR, loadR, passesR, figuresR⟩, numbers, rest⟩

/-- What RESTORE_SNAPSHOT takes is the record that its payload frames, and fails no check (R188, R189). -/
theorem checkSnapshot_ok {payload : List Byte} {r : RawSnapshot} (h : checkSnapshot payload = .ok r) :
    framed payload = some r ∧ r.failing = none := by
  unfold checkSnapshot at h
  split at h
  · split at h
    · cases h
    · split at h
      · cases h
      · cases h
        exact ⟨‹_›, ‹_›⟩
  · cases h

theorem RawBay.checked.figuresInRange {b : RawBay} (h : b.checked) : figuresInRange b.target b.max := by
  obtain ⟨_, _, _, figures⟩ := h
  simp only [RawBay.figuresOk, Bool.and_eq_true, decide_eq_true_eq] at figures
  obtain ⟨⟨⟨low, ordered⟩, high⟩, _⟩ := figures
  exact ⟨low, ordered, high⟩

/-! ### The figures of the truck table (R125) -/

/-- The target and max of each valid entry are in range. -/
abbrev tableFigures (trucks : Vector TruckSet 8) : Prop :=
  ∀ (i : Fin 8) (w : Fin 4), trucks[i].ways[w].valid = true →
    figuresInRange trucks[i].ways[w].target trucks[i].ways[w].max

/-- One entry is written, and has its figures in range while it is valid. -/
theorem tableFigures.put {trucks trucks' : Vector TruckSet 8} (h : tableFigures trucks) {ref : TruckRef}
    {e : TruckEntry}
    (ht : ∀ (i : Fin 8) (w : Fin 4), trucks'[i].ways[w] = if ref = ⟨i, w⟩ then e else trucks[i].ways[w])
    (he : e.valid = true → figuresInRange e.target e.max) : tableFigures trucks' := by
  intro i w
  rw [ht]
  split
  · exact he
  · exact h i w

theorem figuresLaw_iff (s : State) : FiguresLaw s ↔ (∀ d, figuresInRange (s.bay d).target (s.bay d).max) ∧
    figuresInRange s.cal.profile.defTarget s.cal.profile.defMax ∧ tableFigures s.trucks :=
  ⟨fun ⟨left, right, rest⟩ => ⟨fun d => by cases d <;> assumption, rest⟩, fun ⟨bay, rest⟩ =>
    ⟨bay .left, bay .right, rest⟩⟩

/-- The entry whose figures a bay takes with a tag: a valid one, or the profile's defaults (R103). -/
theorem FiguresLaw.entryFor {s : State} (h : FiguresLaw s) (tag : Nat) :
    figuresInRange (s.entryFor tag).target (s.entryFor tag).max := by
  obtain ⟨_, profile, table⟩ := (figuresLaw_iff s).1 h
  unfold State.entryFor
  split
  · rename_i w found
    exact table (setOf tag) w (TruckSet.find_spec found).1
  · exact profile

theorem FiguresLaw.trucksFor {s : State} (h : FiguresLaw s) (tag : Nat) : tableFigures (s.trucksFor tag) := by
  obtain ⟨_, _, table⟩ := (figuresLaw_iff s).1 h
  cases way : s.trucks[setOf tag].wayFor tag with
  | none => rwa [State.trucksFor_full way]
  | some w =>
    rw [State.trucksFor_eq way]
    exact table.put (getElem_put_touch s.trucks ⟨setOf tag, w⟩ _) fun _ => h.entryFor tag

/-! ### The changes of the loads and the trucks -/

/-- Bays with their figures as they were, a profile as it was, and a table with its figures in range. -/
theorem FiguresLaw.congr {s t : State} (h : FiguresLaw s) (ht : tableFigures t.trucks)
    (hp : t.cal.profile = s.cal.profile)
    (hb : ∀ d, (t.bay d).target = (s.bay d).target ∧ (t.bay d).max = (s.bay d).max) : FiguresLaw t := by
  obtain ⟨bays, profile, _⟩ := (figuresLaw_iff s).1 h
  refine (figuresLaw_iff t).2 ⟨fun d => ?_, hp ▸ profile, ht⟩
  obtain ⟨target, max⟩ := hb d
  rw [target, max]
  exact bays d

theorem FiguresLaw.of_same {s t : State} (h : FiguresLaw s) (same : sameLoads s t) : FiguresLaw t := by
  obtain ⟨_, _, table⟩ := (figuresLaw_iff s).1 h
  refine h.congr (same.trucks ▸ table) same.profile fun d => ?_
  unfold State.bay
  rw [same.bay]
  exact ⟨rfl, rfl⟩

/-- One bay takes figures in range. -/
theorem FiguresLaw.setBay {s t : State} (h : FiguresLaw s) (ht : tableFigures t.trucks)
    (hp : t.cal.profile = s.cal.profile) (d : Side) (here : figuresInRange (t.bay d).target (t.bay d).max)
    (beside : (t.bay d.other).target = (s.bay d.other).target ∧ (t.bay d.other).max = (s.bay d.other).max) :
    FiguresLaw t := by
  obtain ⟨bays, profile, _⟩ := (figuresLaw_iff s).1 h
  refine (figuresLaw_iff t).2 ⟨Side.forall_of d here ?_, hp ▸ profile, ht⟩
  rw [beside.1, beside.2]
  exact bays d.other

theorem FiguresLaw.modifyBay {s : State} (h : FiguresLaw s) (d : Side) {f : Bay → Bay}
    (hf : figuresInRange (s.bay d).target (s.bay d).max → figuresInRange (f (s.bay d)).target (f (s.bay d)).max) :
    FiguresLaw (s.modifyBay d f) := by
  obtain ⟨bays, _, table⟩ := (figuresLaw_iff s).1 h
  have here := hf (bays d)
  refine h.setBay table rfl d ?_ ?_
  · cases d <;> exact here
  · cases d <;> exact ⟨rfl, rfl⟩

theorem FiguresLaw.change {law : Prop} {s t : State} (h : FiguresLaw s) (hc : LoadChange law s t) : FiguresLaw t := by
  obtain ⟨bays, profile, table⟩ := (figuresLaw_iff s).1 h
  cases hc with
  | opensFor d tag =>
    have taken := h.entryFor tag
    rw [State.openFor_eq]
    refine h.setBay (h.trucksFor tag) rfl d ?_ ?_
    · cases d <;> exact taken
    · cases d <;> exact ⟨rfl, rfl⟩
  | readdresses d tag =>
    have taken := h.entryFor tag
    rw [State.readdress_eq]
    refine h.setBay (h.trucksFor tag) rfl d ?_ ?_
    · cases d <;> exact taken
    · cases d <;> exact ⟨rfl, rfl⟩
  | opensAnonymous d =>
    rw [State.openAnonymous_eq]
    refine h.setBay table rfl d ?_ ?_
    · cases d <;> exact profile
    · cases d <;> exact ⟨rfl, rfl⟩
  | commits d w time =>
    refine FiguresLaw.of_same ?_ (sameLoads_commit s d w time)
    exact h.modifyBay d id
  | takesOff d => exact h.modifyBay d id
  | retargets d target max _ figures => exact h.modifyBay d fun _ => figures
  | cancels d => exact h.modifyBay d id
  | closes d =>
    rw [State.closeLoad_eq]
    refine h.congr ?_ rfl (Side.forall_of d ?_ ?_)
    · change tableFigures (tripped s (s.bay d))
      unfold tripped
      split
      · exact table
      · rename_i ref _
        exact table.put (getElem_put s.trucks ref _) (table ref.set ref.way)
    · cases d <;> exact ⟨rfl, rfl⟩
    · cases d <;> exact ⟨rfl, rfl⟩
  | writesTruck tag target max material pinned way figures =>
    unfold State.writeTruck
    split
    · rename_i ref _
      exact h.congr (table.put (getElem_put_touch s.trucks ref _) fun _ => figures) rfl fun _ => ⟨rfl, rfl⟩
    · split
      · rename_i w _
        dsimp only
        rw [State.place_eq]
        exact h.congr (table.put (getElem_put_touch s.trucks ⟨setOf tag, w⟩ _) fun _ => figures) rfl
          (Side.forall_of .left ⟨rfl, rfl⟩ ⟨rfl, rfl⟩)
      · exact h
  | dropsTruck tag ref =>
    have lost : ∀ b : Bay, (b.loseRef ref).target = b.target ∧ (b.loseRef ref).max = b.max := by
      intro b
      unfold Bay.loseRef
      split <;> exact ⟨rfl, rfl⟩
    exact h.congr (table.put (getElem_put s.trucks ref _) fun valid => absurd valid Bool.false_ne_true) rfl
      (Side.forall_of .left (lost _) (lost _))
  | endsShift p => exact h.congr table rfl fun d => ⟨rfl, rfl⟩
  | setsProfile f figures => exact (figuresLaw_iff _).2 ⟨bays, figures, table⟩

/-- A restored bay has the figures that V6 has checked (R189, R190). -/
theorem FiguresLaw.restore {s : State} (h : FiguresLaw s) {r : RawSnapshot} (hr : r.failing = none) :
    FiguresLaw (s.restore r) := by
  obtain ⟨_, profile, table⟩ := (figuresLaw_iff s).1 h
  obtain ⟨left, right, _⟩ := RawSnapshot.checked_of_failing hr
  exact ⟨left.figuresInRange, right.figuresInRange, profile, table⟩

theorem FiguresLaw.work {law : Prop} {s t : State} (h : FiguresLaw s) (hw : LoadWork law s t) : FiguresLaw t := by
  cases hw with
  | leaves same => exact h.of_same same
  | one u change same => exact (h.change change).of_same same
  | two u v first second same => exact ((h.change first).change second).of_same same
  | restores _ r _ checked same => exact (h.restore (checkSnapshot_ok checked).2).of_same same

/-- Settles O51: a reset aside, a bay takes its figures from a valid entry, from the profile or from a request that has
checked them, and so do the entries and the profile. -/
theorem stepsKeepFigures : Obligations.StepsKeepFigures := by
  intro s t h hs
  refine step_keeps (P := FiguresLaw) (fun _ _ hu => hu) (fun c u hu => ?_) h hs
  by_cases hr : c.resets = true
  · refine exec_reset_keeps hr hu (fun _ _ => reset_figuresLaw) (fun _ _ h => h) (fun _ h => h) fun v hv => ?_
    obtain ⟨_, profile, table⟩ := (figuresLaw_iff v).1 hv
    exact ⟨profile, profile, profile, table⟩
  · obtain ⟨v, hv, w, asked, worked⟩ := exec_loads (Bool.eq_false_iff.2 hr) u
    exact ⟨v, hv, (hu.of_same asked.loads).work worked⟩

end Sys2Proof.Machine
end

section
/-! The bays' laws (R97 to R99, R104) through the changes of the loads and the trucks. -/

namespace Sys2Proof.Machine

/-! ### One bay (R96 to R99) -/

theorem bayStateFor_eq_empty {load : Nat} {passes : List Pass} {total target max : Nat} :
    bayStateFor load passes total target max = .empty ↔ load = 0 := by
  unfold bayStateFor
  split
  · simp_all
  · (repeat' split) <;> simp_all

/-- A bay is EMPTY exactly while it holds no load (R97). -/
theorem Bay.consistent.empty_iff {b : Bay} (h : b.consistent) : b.state = .empty ↔ b.load = 0 := by
  obtain ⟨state, _⟩ := h
  rw [state, bayStateFor_eq_empty]

/-- A pass list as a bay holds it: at most twelve lawful passes, numbered from 1 (R98). -/
structure passesInOrder (ps : List Pass) : Prop where
  length : ps.length ≤ 12
  lawful : ∀ p ∈ ps, p.lawful
  numbered : ps.map (fun p => p.index) = List.range' 1 ps.length

theorem passesInOrder.nil : passesInOrder [] := ⟨by simp, by simp, rfl⟩

theorem Bay.consistent.order {b : Bay} (h : b.consistent) : passesInOrder b.passes := by
  obtain ⟨_, _, length, lawful, numbered, _⟩ := h
  exact ⟨length, lawful, numbered⟩

theorem Bay.consistent.tagged {b : Bay} (h : b.consistent) : ∀ t ∈ b.tag, tagInRange t := by
  obtain ⟨_, _, _, _, _, tagged, _⟩ := h
  exact tagged

theorem Bay.consistent.sum {b : Bay} (h : b.consistent) : b.total = sumNets b.passes := by
  obtain ⟨_, total, _⟩ := h
  exact total

/-- An EMPTY bay has no tag, no reference, no passes and opened time 0 (R96). -/
theorem Bay.consistent.unloaded {b : Bay} (h : b.consistent) (empty : b.state = .empty) :
    b.tag = none ∧ b.ref = none ∧ b.passes = [] ∧ b.opened = 0 := by
  obtain ⟨_, _, _, _, _, _, unloaded⟩ := h
  exact unloaded empty

/-- A bay that holds a load, with its state formed anew (R97, R99). -/
theorem Bay.restate_consistent {b : Bay} (loaded : b.load ≠ 0) (total : b.total = sumNets b.passes)
    (order : passesInOrder b.passes) (tagged : ∀ t ∈ b.tag, tagInRange t) : b.restate.consistent :=
  ⟨rfl, total, order.length, order.lawful, order.numbered, tagged, fun empty =>
    absurd (bayStateFor_eq_empty.1 empty) loaded⟩

/-- A bay takes a pass list, which is empty while the bay is (R97, R99). -/
theorem Bay.consistent.withPasses {b : Bay} (h : b.consistent) {ps : List Pass} (order : passesInOrder ps)
    (empty : b.state = .empty → ps = []) : (b.withPasses ps).consistent := by
  refine ⟨rfl, rfl, order.length, order.lawful, order.numbered, h.tagged, fun now => ?_⟩
  have before : b.state = .empty := h.empty_iff.2 (bayStateFor_eq_empty.1 now)
  obtain ⟨tag, ref, _, opened⟩ := h.unloaded before
  exact ⟨tag, ref, empty before, opened⟩

/-- A bay that holds no load (R114, R115). -/
theorem Bay.cleared_consistent (b : Bay) : b.cleared.consistent := by
  refine ⟨rfl, rfl, by simp [Bay.cleared], by simp [Bay.cleared], rfl, by simp [Bay.cleared], fun _ => ?_⟩
  exact ⟨rfl, rfl, rfl, rfl⟩

/-- A bay that may have lost its reference, or holds its load by another number (R101, R133). -/
theorem Bay.consistent.congr {b b' : Bay} (h : b.consistent) {ref : Option TruckRef} {load : Nat}
    (hb : b' = { b with ref := ref, load := load }) (lost : b.ref = none → ref = none) (held : load = 0 ↔ b.load = 0) :
    b'.consistent := by
  obtain ⟨state, total, length, lawful, numbered, tagged, empty⟩ := h
  subst hb
  refine ⟨?_, total, length, lawful, numbered, tagged, fun now => ?_⟩
  · dsimp only
    rw [state]
    unfold bayStateFor
    simp only [held]
  · obtain ⟨tag, none, passes, opened⟩ := empty now
    exact ⟨tag, lost none, passes, opened⟩

/-! ### The passes (R108 to R112) -/

theorem State.fill_bound (s : State) (m : Fin 16) (net : Nat) : s.fill m net ≤ 250 ∨ s.fill m net = 255 := by
  unfold State.fill fillOf
  split <;> omega

/-- A change of one pass that leaves its number. -/
theorem passesInOrder.modify {ps : List Pass} (h : passesInOrder ps) (i : Nat) {f : Pass → Pass}
    (index : ∀ p, (f p).index = p.index) (hf : ∀ p, p.lawful → (f p).lawful) : passesInOrder (ps.modify i f) := by
  obtain ⟨length, lawful, numbered⟩ := h
  refine ⟨by simpa using length, fun p hp => ?_, ?_⟩
  · obtain ⟨n, hn⟩ := List.mem_iff_getElem?.1 hp
    rw [List.getElem?_modify] at hn
    obtain ⟨q, hq, rfl⟩ := Option.map_eq_some_iff.1 hn
    have held := lawful q (List.mem_of_getElem? hq)
    split <;> [exact hf q held; exact held]
  · have same : (ps.modify i f).map (fun p => p.index) = ps.map fun p => p.index := by
      refine List.ext_getElem? fun n => ?_
      rw [List.getElem?_map, List.getElem?_modify, Option.map_eq_map, Option.map_map, List.getElem?_map]
      congr 1
      funext p
      dsimp only [Function.comp]
      split <;> simp [index]
    rw [same, numbered, List.length_modify]

/-- The nets, the fills and the times of a commit are in range, whether it appends or merges (R109, R110). -/
theorem passesInOrder.commit {ps : List Pass} (h : passesInOrder ps) {w : WindowResult} (hw : w.lawful) {time : Nat}
    (ht : time ≤ max16) {fill : Nat → Nat} (hf : ∀ n, fill n ≤ 250 ∨ fill n = 255) (clock : Clock) :
    passesInOrder (committedPasses ps w fill time clock) := by
  obtain ⟨length, lawful, numbered⟩ := h
  obtain ⟨net, _, residue, _⟩ := hw
  by_cases room : ps.length < 12
  · rw [committedPasses_append room]
    refine ⟨by simpa using room, fun p hp => ?_, ?_⟩
    · rcases List.mem_append.1 hp with hp | hp
      · exact lawful p hp
      · rw [List.mem_singleton.1 hp]
        exact ⟨net, hf _, ht, residue, Nat.zero_le _⟩
    · rw [List.map_append, numbered, List.length_append, List.length_singleton, List.range'_1_concat]
      simp [Nat.add_comm]
  · have full : ps.length = 12 := by omega
    unfold committedPasses
    rw [if_neg room]
    refine passesInOrder.modify ⟨length, lawful, numbered⟩ 11 (fun _ => rfl) fun p hp => ?_
    obtain ⟨_, _, _, marked, taken⟩ := hp
    refine ⟨Nat.min_le_right _ _, hf _, Nat.min_le_right _ _, ?_, taken⟩
    simp [Pass.merge, Flags.union, residue, marked]

/-- A residue taken off leaves a net and a residue in range (R112). -/
theorem passesInOrder.takeOff {ps : List Pass} (h : passesInOrder ps) (index residue : Nat) {fill : Nat → Nat}
    (hf : ∀ n, fill n ≤ 250 ∨ fill n = 255) :
    passesInOrder (ps.modify index fun p => p.takeOff residue fill) := by
  refine h.modify index (fun _ => rfl) fun p hp => ?_
  obtain ⟨net, _, time, _, _⟩ := hp
  exact ⟨(Nat.sub_le _ _).trans net, hf _, time, rfl, Nat.min_le_right _ _⟩

/-! ### Both bays (R104) -/

theorem tagsDiffer_comm {b c : Bay} (h : tagsDiffer b c) : tagsDiffer c b := by
  intro hc hb tagged same
  exact h hb hc (same ▸ tagged) same.symm

/-- A bay without a tag has no other's. -/
theorem tagsDiffer_of_none {b c : Bay} (h : b.tag = none) : tagsDiffer b c := by
  intro _ _ tagged
  rw [h] at tagged
  cases tagged

/-- The part of the bays' laws that speaks of the bay records and the next load number (R97 to R100, R104). -/
structure BaysLawful (s : State) : Prop where
  consistent : ∀ d, (s.bay d).consistent
  differ : ∀ d, tagsDiffer (s.bay d) (s.bay d.other)
  positive : 1 ≤ s.bays.nextLoad
  bounded : s.bays.nextLoad ≤ max32

theorem BaysLawful.of_same {s t : State} (h : BaysLawful s) (same : sameLoads s t) : BaysLawful t := by
  have bay : ∀ d, t.bay d = s.bay d := fun d => congrArg (Sides.get · d) same.bay
  refine ⟨fun d => bay d ▸ h.consistent d, fun d => ?_, same.nextLoad ▸ h.positive, same.nextLoad ▸ h.bounded⟩
  rw [bay, bay]
  exact h.differ d

/-- The law through a change of one bay, its own and what it does to the one beside. -/
theorem BaysLawful.of_bays {t : State} (d : Side) (here : (t.bay d).consistent) (beside : (t.bay d.other).consistent)
    (differ : tagsDiffer (t.bay d) (t.bay d.other)) (next : 1 ≤ t.bays.nextLoad ∧ t.bays.nextLoad ≤ max32) :
    BaysLawful t := by
  have other : d.other.other = d := by cases d <;> rfl
  refine ⟨Side.forall_of d here beside, Side.forall_of d differ ?_, next.1, next.2⟩
  rw [other]
  exact tagsDiffer_comm differ

theorem nextLoadAfter_inRange {n : Nat} (h : n ≤ max32) : 1 ≤ nextLoadAfter n ∧ nextLoadAfter n ≤ max32 := by
  unfold nextLoadAfter
  split
  · decide
  · omega

theorem State.lostRef_unset {s : State} {ref : TruckRef} {b : Bay} (h : b.ref = none) :
    (s.lostRef ref b).ref = none := by
  unfold State.lostRef
  rw [h, ite_self]

/-- The law through a change that costs bays at most their references (R133, R137). -/
theorem BaysLawful.losesRefs {s t : State} (h : BaysLawful s) (next : t.bays.nextLoad = s.bays.nextLoad)
    (hb : ∀ d, ∃ ref, t.bay d = { s.bay d with ref := ref } ∧ ((s.bay d).ref = none → ref = none)) :
    BaysLawful t := by
  refine ⟨fun d => ?_, fun d => ?_, next ▸ h.positive, next ▸ h.bounded⟩
  · obtain ⟨ref, same, lost⟩ := hb d
    exact (h.consistent d).congr (load := (s.bay d).load) same lost Iff.rfl
  · obtain ⟨_, here, _⟩ := hb d
    obtain ⟨_, beside, _⟩ := hb d.other
    rw [here, beside]
    exact h.differ d

/-- A change of one bay that leaves its tag, and holds a load only where one was held. -/
theorem BaysLawful.modifyBay {s : State} (h : BaysLawful s) (d : Side) {f : Bay → Bay}
    (here : (f (s.bay d)).consistent)
    (held : (f (s.bay d)).state ≠ .empty → (s.bay d).state ≠ .empty ∧ (f (s.bay d)).tag = (s.bay d).tag) :
    BaysLawful (s.modifyBay d f) := by
  have own : (s.modifyBay d f).bay d = f (s.bay d) := by cases d <;> rfl
  have other : (s.modifyBay d f).bay d.other = s.bay d.other := by cases d <;> rfl
  refine .of_bays d (own ▸ here) (other ▸ h.consistent d.other) ?_ ⟨h.positive, h.bounded⟩
  rw [own, other]
  intro hb ho tagged
  obtain ⟨loaded, same⟩ := held hb
  rw [same] at tagged ⊢
  exact h.differ d loaded ho tagged

/-- The bay beside an identification keeps its law (R133). -/
theorem Bay.consistent.besideTag {b : Bay} (h : b.consistent) (s : State) (tag : Nat) :
    (s.besideTag tag b).consistent := by
  refine h.congr (ref := refBeside s.trucks tag b.ref) (load := b.load) rfl (fun none => ?_) Iff.rfl
  rw [none]
  unfold refBeside
  split
  · exact ite_self _
  · rfl

/-- A renumbered load is one still (R100, R101). -/
theorem renumbered_eq_zero_iff {load logged nextLoad : Nat} (h : 1 ≤ nextLoad) :
    (renumbered load logged nextLoad).1 = 0 ↔ load = 0 := by
  unfold renumbered
  split
  · rename_i lower
    dsimp only
    omega
  · rfl

theorem renumbered_next {load logged nextLoad : Nat} (h : 1 ≤ nextLoad ∧ nextLoad ≤ max32) :
    1 ≤ (renumbered load logged nextLoad).2 ∧ (renumbered load logged nextLoad).2 ≤ max32 := by
  unfold renumbered
  split
  · exact nextLoadAfter_inRange h.2
  · exact h

theorem BaysLawful.change {law : Prop} {s t : State} (h : BaysLawful s) (hl : law) (hc : LoadChange law s t) :
    BaysLawful t := by
  have consistent := h.consistent
  have next := nextLoadAfter_inRange h.bounded
  have number : s.bays.nextLoad ≠ 0 := Nat.one_le_iff_ne_zero.1 h.positive
  cases hc with
  | opensFor d tag _ tagged differs =>
    have here : (s.openedFor tag (s.bay d)).consistent := by
      refine Bay.restate_consistent number rfl passesInOrder.nil ?_
      rintro _ ⟨⟩
      exact tagged hl
    have differ : tagsDiffer (s.openedFor tag (s.bay d)) (s.besideTag tag (s.bay d.other)) :=
      fun _ loaded _ same => differs ⟨loaded, same.symm⟩
    have beside := (consistent d.other).besideTag s tag
    rw [State.openFor_eq]
    refine .of_bays d ?_ ?_ ?_ next <;> cases d <;> assumption
  | opensAnonymous d =>
    have here : (s.anonymousBay d).consistent := by
      refine Bay.restate_consistent number rfl passesInOrder.nil ?_
      rintro _ ⟨⟩
    have differ : tagsDiffer (s.anonymousBay d) (s.bay d.other) := tagsDiffer_of_none rfl
    have beside := consistent d.other
    rw [State.openAnonymous_eq]
    refine .of_bays d ?_ ?_ ?_ next <;> cases d <;> assumption
  | readdresses d tag loaded tagged differs =>
    have here : (s.identified tag (s.bay d)).restate.consistent := by
      refine Bay.restate_consistent (fun zero => loaded ((consistent d).empty_iff.2 zero)) (consistent d).sum
        (consistent d).order ?_
      rintro _ ⟨⟩
      exact tagged hl
    have differ : tagsDiffer (s.identified tag (s.bay d)).restate (s.besideTag tag (s.bay d.other)) :=
      fun _ loaded _ same => differs ⟨loaded, same.symm⟩
    have beside := (consistent d.other).besideTag s tag
    rw [State.readdress_eq]
    refine .of_bays d ?_ ?_ ?_ ⟨h.positive, h.bounded⟩ <;> cases d <;> assumption
  | commits d w time loaded lawful =>
    obtain ⟨window, cycleTime⟩ := lawful hl
    refine BaysLawful.of_same ?_ (sameLoads_commit s d w time)
    refine h.modifyBay d ((consistent d).withPasses ((consistent d).order.commit window cycleTime (s.fill_bound _) _)
      fun empty => absurd empty (loaded hl)) fun _ => ⟨loaded hl, rfl⟩
  | takesOff d index residue =>
    refine h.modifyBay d ((consistent d).withPasses ((consistent d).order.takeOff index residue (s.fill_bound _))
      fun empty => ?_) fun held => ⟨fun empty => held ?_, rfl⟩
    · obtain ⟨_, _, passes, _⟩ := (consistent d).unloaded empty
      rw [passes, List.modify_nil]
    · exact bayStateFor_eq_empty.2 ((consistent d).empty_iff.1 empty)
  | retargets d target max loaded =>
    refine h.modifyBay d (Bay.restate_consistent (fun zero => loaded ((consistent d).empty_iff.2 zero))
      (consistent d).sum (consistent d).order (consistent d).tagged) fun _ => ⟨loaded, rfl⟩
  | cancels d => exact h.modifyBay d (s.bay d).cleared_consistent fun held => absurd rfl held
  | closes d =>
    have here := (s.bay d).cleared_consistent
    have beside : Bay.consistent { s.bay d.other with load := (s.numbersBeside d).1 } :=
      (consistent d.other).congr (ref := (s.bay d.other).ref) rfl id (renumbered_eq_zero_iff h.positive)
    have differ : tagsDiffer (s.bay d).cleared { s.bay d.other with load := (s.numbersBeside d).1 } :=
      tagsDiffer_of_none rfl
    rw [State.closeLoad_eq]
    refine .of_bays d ?_ ?_ ?_ (renumbered_next ⟨h.positive, h.bounded⟩) <;> cases d <;> assumption
  | writesTruck tag target max material pinned way =>
    unfold State.writeTruck
    split
    · exact h.losesRefs rfl fun d => ⟨(s.bay d).ref, rfl, id⟩
    · split
      · dsimp only
        rw [State.place_eq]
        exact h.losesRefs rfl (Side.forall_of .left ⟨_, rfl, State.lostRef_unset⟩ ⟨_, rfl, State.lostRef_unset⟩)
      · exact h
  | dropsTruck tag ref =>
    have lost : ∀ b : Bay, ∃ r, b.loseRef ref = { b with ref := r } ∧ (b.ref = none → r = none) := by
      intro b
      unfold Bay.loseRef
      split
      · exact ⟨none, rfl, fun _ => rfl⟩
      · exact ⟨b.ref, rfl, id⟩
    exact h.losesRefs rfl (Side.forall_of .left (lost _) (lost _))
  | endsShift p => exact h.losesRefs rfl fun d => ⟨(s.bay d).ref, rfl, id⟩
  | setsProfile f => exact h.losesRefs rfl fun d => ⟨(s.bay d).ref, rfl, id⟩

/-! ### A restored record (R188 to R190) -/

/-- A figure of `n` bytes lies below the power of 256 that they give (R198). -/
theorem readNat_lt {n v : Nat} {bs rest : List Byte} (h : readNat n bs = some (v, rest)) : v < 256 ^ n := by
  unfold readNat at h
  split at h
  · cases h
    exact (fromBe_lt _).trans_le (Nat.pow_le_pow_right (by decide) (by simp))
  · cases h

theorem readOptional_lt {there : Bool} {n : Nat} {v : Option Nat} {bs rest : List Byte}
    (h : readOptional there n bs = some (v, rest)) : ∀ x ∈ v, x < 256 ^ n := by
  unfold readOptional at h
  split at h
  · obtain ⟨⟨x, r⟩, hx, same⟩ := Option.map_eq_some_iff.1 h
    cases same
    rintro _ ⟨⟩
    exact readNat_lt hx
  · cases h
    rintro _ ⟨⟩

theorem readPass_time {bs rest : List Byte} {p : RawPass} (h : readPass bs = some (p, rest)) :
    p.cycleTime ≤ max16 := by
  unfold readPass at h
  simp only [Option.bind_eq_bind, Option.bind_eq_some_iff, Prod.exists, Option.pure_def, Option.some.injEq,
    Prod.mk.injEq] at h
  obtain ⟨_, _, _, _, _, _, _, _, _, _, _, _, time, _, read, _, _, _, _, _, _, rfl, _⟩ := h
  exact Nat.le_of_lt_succ (readNat_lt read)

theorem readPasses_time {n : Nat} {bs rest : List Byte} {ps : List RawPass} (h : readPasses n bs = some (ps, rest)) :
    ∀ p ∈ ps, p.cycleTime ≤ max16 := by
  induction n generalizing bs rest ps with
  | zero =>
    cases h
    simp
  | succ n ih =>
    simp only [readPasses, Option.bind_eq_bind, Option.bind_eq_some_iff, Prod.exists, Option.pure_def,
      Option.some.injEq, Prod.mk.injEq] at h
    obtain ⟨p, _, first, qs, _, others, rfl, _⟩ := h
    exact List.forall_mem_cons.2 ⟨readPass_time first, ih others⟩

/-- The figures of a bay of a record that its bytes bound: the tag and the times of its passes (R198). -/
structure RawBay.bounded (b : RawBay) : Prop where
  tag : ∀ t ∈ b.tag, t ≤ 16777215
  times : ∀ p ∈ b.passes, p.cycleTime ≤ max16

theorem readBay_bounded {bs rest : List Byte} {b : RawBay} (h : readBay bs = some (b, rest)) : b.bounded := by
  unfold readBay at h
  simp only [Option.bind_eq_bind, Option.bind_eq_some_iff, Prod.exists, Option.pure_def, Option.some.injEq,
    Prod.mk.injEq] at h
  obtain ⟨_, _, _, _, _, _, _, _, _, tag, _, readTag, _, _, _, _, _, _, _, _, _, _, _, _, _, _, _, _, _, _,
    passes, _, readAll, rfl, _⟩ := h
  exact ⟨fun t ht => Nat.le_of_lt_succ (readOptional_lt readTag t ht), readPasses_time readAll⟩

/-- The figures of a framed record that its bytes bound (V2 of R189, R198). -/
theorem framed_bounded {payload : List Byte} {r : RawSnapshot} (h : framed payload = some r) :
    r.left.bounded ∧ r.right.bounded ∧ r.nextLoad ≤ max32 := by
  unfold framed at h
  dsimp only at h
  split at h
  · rename_i x read
    split at h
    · cases h
      unfold readSnapshot at read
      simp only [Option.bind_eq_bind, Option.bind_eq_some_iff, Prod.exists, Option.pure_def, Option.some.injEq,
        Prod.mk.injEq] at read
      obtain ⟨_, _, _, _, _, _, _, _, _, _, _, _, _, _, _, _, _, readNext, _, _, _, _, _, _, left, _, readLeft, right,
        _, readRight, rfl, _⟩ := read
      exact ⟨readBay_bounded readLeft, readBay_bounded readRight, Nat.le_of_lt_succ (readNat_lt readNext)⟩
    · cases h
  · cases h
  · cases h

/-- Nine flags: bit 8 of the field is RESIDUE (R197). -/
theorem RawPass.toPass_lawful {p : RawPass} {place : Nat} (h : p.ok place = true) (time : p.cycleTime ≤ max16) :
    p.toPass.lawful ∧ p.toPass.index = place + 1 := by
  simp only [RawPass.ok, Bool.and_eq_true, Bool.or_eq_true, decide_eq_true_eq, beq_iff_eq] at h
  obtain ⟨⟨⟨⟨⟨net, index⟩, fill⟩, _⟩, flagged⟩, residue⟩ := h
  exact ⟨⟨net, fill, time, flagged, residue⟩, index⟩

theorem bayStateOf_eq_empty {n : Nat} : bayStateOf n = some .empty ↔ n = 0 := by
  unfold bayStateOf
  split <;> simp_all

/-- The passes of a checked bay (V3 and V5 of R189). -/
theorem RawBay.checked.order {b : RawBay} (h : b.checked) (bounds : b.bounded) :
    passesInOrder (b.passes.map RawPass.toPass) := by
  have ok : ∀ (i : Nat) (p : RawPass), b.passes[i]? = some p → p.ok i = true := by
    intro i p hp
    have all := h.passes
    simp only [RawBay.passesOk, Bool.and_eq_true, List.all_eq_true] at all
    exact all.1.1 (p, i) (List.mk_mem_zipIdx_iff_getElem?.2 hp)
  refine ⟨?_, fun q hq => ?_, ?_⟩
  · have shape := h.shape
    unfold RawBay.shapeOk at shape
    rw [List.length_map]
    split at shape <;> simp_all
  · obtain ⟨p, hp, rfl⟩ := List.mem_map.1 hq
    obtain ⟨i, hi⟩ := List.mem_iff_getElem?.1 hp
    exact (RawPass.toPass_lawful (ok i p hi) (bounds.times p hp)).1
  · refine List.ext_getElem (by simp) fun i hi hi' => ?_
    simp only [List.length_map] at hi
    have index := (RawPass.toPass_lawful (ok i _ (List.getElem?_eq_getElem hi)) (bounds.times _ (List.getElem_mem hi))).2
    simpa [List.getElem_range', Nat.add_comm] using index

/-- A bay of an accepted record keeps its law (V3 to V5 of R189, R190). -/
theorem RawBay.checked.consistent {b : RawBay} (h : b.checked) (bounds : b.bounded) (lookup : Nat → Option TruckRef) :
    (b.toBay lookup).consistent := by
  have passes := h.passes
  have load := h.load
  obtain ⟨length, lawful, numbered⟩ := h.order bounds
  simp only [RawBay.passesOk, Bool.and_eq_true, beq_iff_eq] at passes
  obtain ⟨⟨_, total⟩, state⟩ := passes
  simp only [RawBay.loadOk, Bool.and_eq_true, bne_iff_ne] at load
  obtain ⟨shape, tagged⟩ := load
  have formed : (b.toBay lookup).state =
      bayStateFor b.load (b.passes.map RawPass.toPass) b.total b.target b.max := by
    simp only [RawBay.toBay, state, Option.getD_some]
  refine ⟨formed, ?_, length, lawful, numbered, fun t ht => ?_, fun empty => ?_⟩
  · simp only [RawBay.toBay, total, sumNets, List.map_map]
    rfl
  · refine ⟨Nat.one_le_iff_ne_zero.2 ?_, bounds.tag t ht⟩
    rintro rfl
    exact tagged ht
  · have code : b.state = 0 := bayStateOf_eq_empty.1 (state.trans (congrArg some (formed.symm.trans empty)))
    have bare := h.shape
    simp only [RawBay.shapeOk, code, bayStateOf, List.isEmpty_iff] at bare
    simp only [code, if_true, Bool.and_eq_true, beq_iff_eq, Option.isNone_iff_eq_none] at shape
    obtain ⟨⟨_, tag⟩, opened⟩ := shape
    exact ⟨tag, if_pos code, by simp [RawBay.toBay, bare], by simp [RawBay.toBay, opened]⟩

/-- Both bays of an accepted record, and its next load number (V7 of R189). -/
theorem BaysLawful.restore {payload : List Byte} {r : RawSnapshot} (h : checkSnapshot payload = .ok r) (s : State) :
    BaysLawful (s.restore r) := by
  obtain ⟨read, passed⟩ := checkSnapshot_ok h
  obtain ⟨left, right, numbers, _⟩ := RawSnapshot.checked_of_failing passed
  obtain ⟨boundsL, boundsR, next⟩ := framed_bounded read
  simp only [RawSnapshot.numbersOk, Bool.and_eq_true, Bool.or_eq_true, bne_iff_ne, Option.isNone_iff_eq_none] at numbers
  obtain ⟨⟨⟨⟨positive, _⟩, _⟩, _⟩, tags⟩ := numbers
  refine .of_bays .left (left.consistent boundsL _) (right.consistent boundsR _) (fun _ _ tagged => ?_)
    ⟨Nat.one_le_iff_ne_zero.2 positive, next⟩
  exact tags.resolve_left (Option.isSome_iff_ne_none.1 tagged)

theorem BaysLawful.work {law : Prop} {s t : State} (h : BaysLawful s) (hl : law) (hw : LoadWork law s t) :
    BaysLawful t := by
  cases hw with
  | leaves same => exact h.of_same same
  | one u change same => exact (h.change hl change).of_same same
  | two u v first second same => exact ((h.change hl first).change hl second).of_same same
  | restores _ r _ checked same => exact (BaysLawful.restore checked s).of_same same

end Sys2Proof.Machine
end

section
/-! Every step keeps the bays' laws (R97 to R99, R104), and what is on its way to the bays in range (R13, R26, R62). -/

namespace Sys2Proof.Machine

/-! ### What waits at the tracker and the arbiter (R13, R26, R62) -/

/-- The cycle timer, the held result and the items that wait are in their ranges. -/
structure Waiting (s : State) : Prop where
  timer : s.tracker.timer ≤ max16
  held : ∀ w ∈ s.tracker.held, w.lawful
  items : ∀ i ∈ s.arb.items, i.lawful = true

/-- A change that hands nothing, keeps or restarts the timer, and keeps or drops the held result. -/
theorem Waiting.congr {s t : State} (h : Waiting s) (timer : t.tracker.timer ≤ s.tracker.timer)
    (held : t.tracker.held = none ∨ t.tracker.held = s.tracker.held) (items : t.arb.items = s.arb.items) :
    Waiting t := by
  refine ⟨timer.trans h.timer, fun w hw => ?_, items ▸ h.items⟩
  rcases held with dropped | kept
  · rw [dropped] at hw
    cases hw
  · exact h.held w (kept ▸ hw)

theorem Waiting.of_blocks {s t : State} (h : Waiting s) (ht : Block.tracker.kept s t) (hi : Block.items.kept s t) :
    Waiting t := by
  change t.tracker = s.tracker at ht
  exact h.congr (ht ▸ le_rfl) (.inr (ht ▸ rfl)) hi

/-- A change that hands one item. -/
theorem Waiting.handed {s t : State} (h : Waiting s) (timer : t.tracker.timer ≤ s.tracker.timer)
    (held : t.tracker.held = none ∨ t.tracker.held = s.tracker.held) {i : Item}
    (items : t.arb.items = s.arb.items ++ [i]) (hi : i.lawful = true) : Waiting t := by
  have kept := h.congr (t := { t with arb := { t.arb with items := s.arb.items } }) timer held rfl
  exact ⟨kept.timer, kept.held, items ▸ List.forall_mem_append.2 ⟨h.items, by simpa using hi⟩⟩

theorem Waiting.discardCapture {s : State} (h : Waiting s) : Waiting s.discardCapture := by
  rw [State.discardCapture_eq]
  exact h.congr le_rfl (.inr rfl) rfl

theorem Waiting.abortCapture {s : State} (h : Waiting s) : Waiting s.abortCapture := by
  unfold State.abortCapture
  split
  · exact h
  · exact h.handed le_rfl (.inr rfl) rfl rfl

theorem Waiting.forcedIdle {s : State} (h : Waiting s) : Waiting s.forcedIdle := by
  have idle := h.discardCapture
  unfold State.forcedIdle
  dsimp only
  split
  · exact idle.handed le_rfl (.inl rfl) rfl rfl
  · exact idle.congr le_rfl (.inl rfl) rfl

/-- A truck dump carries the held result and the timer (R35). -/
theorem Waiting.dump {s : State} (h : Waiting s) (r : SweepRecord) : Waiting (s.dump r) := by
  have dumped := h.discardCapture
  unfold State.dump
  dsimp only
  split
  · rename_i w held
    split
    · exact dumped.handed le_rfl (.inl rfl) rfl (decide_eq_true ⟨h.held w held, h.timer⟩)
    · exact dumped.handed le_rfl (.inl rfl) rfl rfl
  · exact dumped.handed le_rfl (.inl rfl) rfl rfl

theorem Waiting.endCaptureLift {s : State} (h : Waiting s) : Waiting s.endCaptureLift := by
  unfold State.endCaptureLift
  split
  · exact h
  · exact h.handed le_rfl (.inr rfl) rfl rfl

/-- A window's net and fill are in range, and it carries none of the bay manager's flags (R62, R64, R68). -/
theorem State.windowResult_lawful (s : State) : s.windowResult.lawful := by
  have net : ∀ mean trim : Int, netOf mean trim ≤ 30000 := by
    intro mean trim
    unfold netOf clamp
    split <;> [omega; split <;> omega]
  unfold State.windowResult
  dsimp only
  split
  · exact ⟨net _ _, s.fill_bound _ _, rfl, rfl⟩
  · exact ⟨Nat.zero_le _, s.fill_bound _ _, rfl, rfl⟩

theorem heldAfter_lawful {old : Option WindowResult} {w : WindowResult} (h : ∀ x ∈ old, x.lawful) (hw : w.lawful) :
    (heldAfter old w).lawful := by
  unfold heldAfter
  split
  · exact hw
  · rename_i x
    have before : x.lawful := h x rfl
    split <;> [exact before; exact hw]

theorem Waiting.enterCarry {s : State} (h : Waiting s) : Waiting s.enterCarry := by
  have items : s.enterCarry.arb.items = s.arb.items := by
    simpa using s.enterCarry_change.items
  refine ⟨?_, fun w hw => ?_, items ▸ h.items⟩
  · rw [s.enterCarry_tracker]
    exact h.timer
  · rw [s.enterCarry_tracker] at hw
    cases hw
    exact heldAfter_lawful h.held s.windowResult_lawful

theorem Waiting.endWindow {s : State} (h : Waiting s) : Waiting s.endWindow := by
  unfold State.endWindow State.endZeroing
  split
  · split
    · exact h.handed le_rfl (.inr rfl) rfl rfl
    · exact h.congr le_rfl (.inr rfl) rfl
  · exact h.enterCarry

theorem Waiting.endCheck {s : State} (h : Waiting s) : Waiting s.endCheck := by
  unfold State.endCheck
  dsimp only
  split
  · split
    · exact h.handed le_rfl (.inr rfl) rfl rfl
    · exact h.congr le_rfl (.inr rfl) rfl
  · exact h.congr le_rfl (.inr rfl) rfl

theorem Waiting.startReweigh {s : State} (h : Waiting s) : Waiting s.startReweigh := by
  unfold State.startReweigh
  dsimp only
  split
  · exact h.handed le_rfl (.inr rfl) rfl rfl
  · exact h.congr le_rfl (.inr rfl) rfl

theorem Waiting.enterDig {s : State} (h : Waiting s) : Waiting s.enterDig :=
  h.congr (Nat.zero_le _) (.inl rfl) rfl

theorem Waiting.boomTransition {s : State} (h : Waiting s) (boom : Int) : Waiting (s.boomTransition boom) := by
  have goes : ∀ {u : State} (c : CycleState), Waiting u → Waiting (u.goTo c) := fun c hu =>
    hu.congr le_rfl (.inr rfl) rfl
  have cleared : Waiting s.emptyAcc := h.congr le_rfl (.inr rfl) rfl
  unfold State.boomTransition
  dsimp only
  split
  case h_1 => split <;> [exact h.enterDig; exact h]
  case h_2 => split <;> [exact goes _ h; exact h]
  case h_3 =>
    split
    · exact goes _ cleared
    · split <;> [exact goes _ h.discardCapture; exact h]
  case h_4 =>
    split
    · exact goes _ cleared
    split
    · exact h
    · split <;> [exact h; exact h.endWindow]
  case h_5 => split <;> [exact h.startReweigh; exact h]
  case h_6 =>
    split
    · exact h.enterDig
    · split
      · split <;> [exact goes _ cleared; exact h]
      · exact h
  case h_7 =>
    split
    · exact h.endCheck
    · split <;> [exact goes _ cleared; exact h]

theorem Waiting.changeCycle {s : State} (h : Waiting s) (r : SweepRecord) : Waiting (s.changeCycle r) := by
  unfold State.changeCycle
  dsimp only
  split
  · split <;> [exact h; exact h.forcedIdle]
  split
  · split <;> [exact h.congr le_rfl (.inr rfl) rfl; exact h.dump r]
  split
  · exact h.endCaptureLift
  · exact h.boomTransition _

theorem Waiting.takeRecord {s : State} (h : Waiting s) (r : SweepRecord) : Waiting (s.takeRecord r) := by
  have steps : ∀ t : State, Waiting t → Waiting (t.takeSteps r) := by
    intro t ht
    refine (ht.changeCycle r).congr ?_ (.inr ?_) (t.takeSteps_items r) <;> rw [t.takeSteps_tracker]
  have asked : Waiting { s with openChoice := s.openChoice + 1 } := h.congr le_rfl (.inr rfl) rfl
  have remembered : ∀ t : State, Waiting t → Waiting (t.remember r) := fun t ht => ht.congr le_rfl (.inr rfl) rfl
  rcases s.takeRecord_cases r with ⟨_, he⟩ | ⟨_, he⟩ | ⟨_, he⟩ <;> rw [he] <;> refine remembered _ ?_
  · exact steps s h
  · exact steps _ asked.abortCapture
  · exact (steps _ asked).abortCapture

/-! ### The sensor link (R11 to R13) -/

/-- The tags that a sweep has fetched are in range, and so is what waits behind them. -/
structure OnTheWay (s : State) : Prop where
  waiting : Waiting s
  tags : ∀ sw ∈ s.link.sweep, ∀ e ∈ sw.tags, tagInRange e.tag

theorem OnTheWay.of_blocks {s t : State} (h : OnTheWay s) (hl : Block.link.kept s t) (ht : Block.tracker.kept s t)
    (hi : Block.items.kept s t) : OnTheWay t := by
  change t.link = s.link at hl
  exact ⟨h.waiting.of_blocks ht hi, hl ▸ h.tags⟩

/-- Behind the items that wait, a sweep hands its record's outcomes and its tag events. -/
theorem OnTheWay.endSweep {s : State} (h : Waiting s) {sw : Sweep} (ht : ∀ e ∈ sw.tags, tagInRange e.tag) :
    OnTheWay (s.endSweep sw) := by
  have cleared : Waiting s.sweepOver := ⟨h.timer, h.held, by simp [State.sweepOver]⟩
  obtain ⟨timer, held, outcomes⟩ := cleared.takeRecord (sweepRecord s.link sw)
  have tags : ∀ i ∈ sw.tags.map Item.tag, i.lawful = true :=
    List.forall_mem_map.2 fun e he => decide_eq_true (ht e he)
  refine ⟨?_, by simp⟩
  obtain ⟨k, n, ended⟩ := s.endSweep_eq sw
  rw [ended]
  refine ⟨timer, held, fun i hi => ?_⟩
  simp only [List.mem_append] at hi
  rcases hi with ((hi | hi) | hi) | hi
  · exact h.items i hi
  · exact tags i (List.mem_of_mem_take hi)
  · exact outcomes i hi
  · exact tags i (List.mem_of_mem_drop hi)

/-- A tag that a read fetches has 24 bits (R13). -/
theorem State.tagFetched_le {s : State} {role : Role} {heard : Option ReadAnswer} {e : TagEvent}
    (h : s.tagFetched role heard = some e) : e.tag ≤ 16777215 := by
  obtain ⟨a, _, ha⟩ := Option.bind_eq_some_iff.1 h
  unfold fetchedTag at ha
  split at ha
  · split at ha
    · cases ha
      exact Nat.le_of_lt_succ a.tag.isLt
    · cases ha
  · cases ha

theorem OnTheWay.readEnded {s t : State} {sw : Sweep} {rest : List Role} {role : Role} {addr : Fin 16}
    {heard : Option ReadAnswer} (h : OnTheWay s) (hs : s.link.sweep = some sw)
    (ended : ReadEnded s t sw rest role addr heard) : OnTheWay t := by
  have before := h.tags sw hs
  obtain ⟨tags, joined, noTag, zeroTag, someTag⟩ := ended.sweep
  refine ⟨h.waiting.of_blocks ?_ ?_, ?_⟩
  · rw [ended.frame]
    rfl
  · rw [ended.frame]
    rfl
  rw [joined]
  rintro _ ⟨⟩
  dsimp only
  cases fetched : s.tagFetched role heard with
  | none => rwa [(noTag fetched).1]
  | some e =>
    by_cases zero : e.tag = 0
    · rwa [(zeroTag e fetched zero).1]
    · rw [(someTag e fetched zero).1]
      refine List.forall_mem_append.2 ⟨before, ?_⟩
      simpa using ⟨Nat.one_le_iff_ne_zero.2 zero, State.tagFetched_le fetched⟩

theorem OnTheWay.serveEnds {s : State} (h : OnTheWay s) {sw : Sweep} (hs : s.link.sweep = some sw) (i : Fin 2)
    (a : Access) (seen : Option NodeType) (x : AccessResult) : OnTheWay (s.serveEnds sw i a seen x) := by
  rw [State.serveEnds_hears, State.hears_eq]
  exact OnTheWay.endSweep (h.waiting.of_blocks (by simp [Block.kept]) (by simp [Block.kept])) (h.tags sw hs)

/-- The start of a sweep and its transactions. -/
theorem OnTheWay.transaction {c : Instr} {s : State} (h : OnTheWay s) (hc : c.writesLink = true)
    (hq : c.request = none) : ∃ t, exec c s = .next t ∧ OnTheWay t := by
  cases c <;> simp only [Instr.writesLink, Instr.endsSweep, Instr.request, Bool.or_false, Bool.false_eq_true,
    reduceCtorEq] at hc hq
  case sweepStart =>
    by_cases hs : s.power = .running ∧ s.link.sweep = none
    · refine ⟨_, exec_sweepStart hs.1 hs.2, ?_, ?_⟩
      · rw [(s.rebind_rebound s.cal.profile.binding).frame]
        exact h.waiting.congr le_rfl (.inr rfl) rfl
      · rintro _ ⟨⟩
        simp
    · exact ⟨s, if_neg hs, h⟩
  case readValue role reply =>
    by_cases ho : s.power = .running ∧ ∃ sw ∈ s.link.sweep,
        sw.toRead.head? = some role ∧ (s.link.roles.get role).bound.isSome = true
    · obtain ⟨hp, sw, hs, hhead, hbound⟩ := ho
      obtain ⟨rest, hr⟩ := List.head?_eq_some_iff.1 hhead
      obtain ⟨addr, hb⟩ := Option.isSome_iff_exists.1 hbound
      exact ⟨_, exec_readValue hp hs hr hb reply, h.readEnded hs (s.readEnds_ended sw rest role addr reply)⟩
    · exact ⟨s, exec_readValue_idle ho reply, h⟩
  case probe reply =>
    by_cases ho : s.power = .running ∧ ∃ sw ∈ s.link.sweep, sw.toRead = [] ∧ sw.slot = none
    · obtain ⟨hp, sw, hs, hr, hi⟩ := ho
      refine ⟨_, exec_probe hp hs hr hi reply, ?_⟩
      rw [State.probeEnds_eq, State.probed_eq]
      split
      · refine ⟨h.waiting.congr le_rfl (.inr rfl) rfl, ?_⟩
        rintro _ ⟨⟩
        exact h.tags sw hs
      · refine OnTheWay.endSweep ?_ (h.tags sw hs)
        exact h.waiting.congr le_rfl (.inr rfl) rfl
    · exact ⟨s, exec_probe_idle ho reply, h⟩
  case nodeRead reply =>
    by_cases ho : ∃ sw i a, s.power = .running ∧ s.serving = some (sw, i, a) ∧ a.dir = .read
    · obtain ⟨sw, i, a, hp, hv, hd⟩ := ho
      exact ⟨_, exec_nodeRead hp hv hd reply, h.serveEnds (State.serving_eq_some.1 hv).1 ..⟩
    · exact ⟨s, exec_nodeRead_idle (fun sw i a hp hv hd => ho ⟨sw, i, a, hp, hv, hd⟩) reply, h⟩
  case nodeWrite reply =>
    by_cases ho : ∃ sw i a, s.power = .running ∧ s.serving = some (sw, i, a) ∧ a.dir = .write
    · obtain ⟨sw, i, a, hp, hv, hd⟩ := ho
      exact ⟨_, exec_nodeWrite hp hv hd reply, h.serveEnds (State.serving_eq_some.1 hv).1 ..⟩
    · exact ⟨s, exec_nodeWrite_idle (fun sw i a hp hv hd => ho ⟨sw, i, a, hp, hv, hd⟩) reply, h⟩

/-! ### The grants -/

/-- The tags of the sweep, and the timer, the held result and the items, are as they were or fewer. -/
theorem OnTheWay.congr {s t : State} (h : OnTheWay s) (sweep : t.link.sweep = s.link.sweep)
    (timer : t.tracker.timer = s.tracker.timer)
    (held : t.tracker.held = none ∨ t.tracker.held = s.tracker.held) (items : t.arb.items = s.arb.items) :
    OnTheWay t :=
  ⟨h.waiting.congr timer.le held items, sweep ▸ h.tags⟩

theorem OnTheWay.grantRequest {s : State} (h : OnTheWay s) (k : ReqKind) (p : Port) (calen : Option Bool)
    {work : List Byte → State → State × Reply} (hw : ∀ payload u, OnTheWay u → OnTheWay (work payload u).1) :
    ∃ t, grantRequest k p calen work s = .next t ∧ OnTheWay t := by
  have asked : OnTheWay ((s.dropRequest p).readCalen calen) :=
    h.congr (by simp) (by simp) (.inr (by simp)) (by simp)
  have ended : ∀ (u : State) (a : Answer), OnTheWay u → OnTheWay ((s.settle u).answer p a) := fun u a hu =>
    hu.congr (by simp) (by simp) (.inr (by simp)) (by simp)
  exact grantRequest_keeps h (fun r a _ _ => ended _ a asked) fun r _ _ _ _ _ => ended _ _ (hw r.payload _ asked)

/-- A grant of an item, whose work hands nothing and leaves the link, the timer and the held result. -/
theorem OnTheWay.grantItem {s : State} (h : OnTheWay s) {work : Item → Option (State → State)} {bs : List Block}
    (hw : ItemChanges bs work) (hb : .link ∉ bs ∧ .items ∉ bs)
    (ht : ∀ i f, work i = some f → ∀ u : State, (f u).tracker.timer = u.tracker.timer ∧
      (f u).tracker.held = u.tracker.held) : ∃ t, grantItem work s = .next t ∧ OnTheWay t := by
  have dropped : OnTheWay s.dropItem :=
    ⟨⟨h.waiting.timer, h.waiting.held, fun i hi => h.waiting.items i (List.mem_of_mem_tail hi)⟩, h.tags⟩
  refine grantItem_keeps h fun i f _ _ hf => ?_
  obtain ⟨timer, held⟩ := ht i f hf s.dropItem
  have link : (f s.dropItem).link = s.dropItem.link := (hw i f hf _).kept hb.1
  have worked : OnTheWay (f s.dropItem) :=
    dropped.congr (congrArg _ link) timer (.inr held) ((hw i f hf _).kept hb.2)
  exact worked.congr (by simp) (by simp) (.inr (by simp)) (by simp)

/-- A grant of an item whose work leaves the tracker. -/
theorem OnTheWay.grantOutcome {s : State} (h : OnTheWay s) {work : Item → Option (State → State)} {bs : List Block}
    (hw : ItemChanges bs work) (hb : .link ∉ bs ∧ .items ∉ bs ∧ .tracker ∉ bs) :
    ∃ t, Machine.grantItem work s = .next t ∧ OnTheWay t := by
  refine h.grantItem hw ⟨hb.1, hb.2.1⟩ fun i f hf u => ?_
  have tracker : (f u).tracker = u.tracker := (hw i f hf u).kept hb.2.2
  exact ⟨congrArg _ tracker, congrArg _ tracker⟩

theorem OnTheWay.itemGrant {c : Instr} {s : State} (h : OnTheWay s) (hc : c.grantsItem = true) :
    ∃ t, exec c s = .next t ∧ OnTheWay t := by
  cases c <;> simp only [Instr.grantsItem, Bool.false_eq_true] at hc
  case tagEvent =>
    refine h.grantItem tagEventWork_changes (by simp) fun i f hf u => ?_
    cases i <;> cases hf
    obtain ⟨tracker, _⟩ := u.tagEvent_steady _
    rw [tracker]
    exact ⟨rfl, rfl⟩
  case truckDump =>
    refine h.grantItem truckDumpWork_changes (by simp) fun i f hf u => ?_
    cases i <;> cases hf
    dsimp only
    rw [State.truckDump_eq, State.raise_tracker]
    exact ⟨rfl, rfl⟩
  case pileDump => exact h.grantOutcome pileDumpWork_changes (by simp)
  case reweigh => exact h.grantOutcome reweighWork_changes (by simp)
  case lostCycle => exact h.grantOutcome lostCycleWork_changes (by simp)
  case residue => exact h.grantOutcome residueWork_changes (by simp)
  case zero => exact h.grantOutcome zeroWork_changes (by simp)
  case capture => exact h.grantOutcome captureWork_changes (by simp)

/-! ### The requests that touch the tracker or the link (R15, R17, R40, R41, R80, R86, R101) -/

/-- Work that leaves the tracker but for a load's number, and the link and the items. -/
theorem OnTheWay.steadyWork {bs : List Block} {work : List Byte → State → State × Reply} (hs : SteadyWork work)
    (hw : WorkChanges bs work) (hb : .link ∉ bs ∧ .items ∉ bs) (payload : List Byte) (u : State) (h : OnTheWay u) :
    OnTheWay (work payload u).1 := by
  obtain ⟨tracker, _⟩ := hs payload u
  have link : (work payload u).1.link = u.link := (hw payload u).kept hb.1
  refine h.congr (congrArg _ link) ?_ (.inr ?_) ((hw payload u).kept hb.2) <;> rw [tracker]

theorem OnTheWay.zeroBucketWork {s : State} (h : OnTheWay s) (payload : List Byte) :
    OnTheWay (zeroBucketWork payload s).1 := by
  unfold Machine.zeroBucketWork
  split
  · exact h
  split
  · exact h
  split
  · exact h
  · exact h.congr rfl rfl (.inr rfl) rfl

/-- Arming a capture drops the held result at most (R80). -/
theorem OnTheWay.startCaptureWork {s : State} (h : OnTheWay s) (payload : List Byte) :
    OnTheWay (startCaptureWork payload s).1 := by
  unfold Machine.startCaptureWork
  split
  · exact h
  split
  · exact h
  split
  · exact h
  split
  · exact h
  · refine h.congr rfl ?_ ?_ rfl
    · simp only [State.modifyTracker, Tracker.dropHeld_eq]
      rfl
    · simp only [State.modifyTracker, Tracker.dropHeld_eq]
      split <;> [exact .inl rfl; exact .inr rfl]

theorem OnTheWay.abortCaptureWork {s : State} (h : OnTheWay s) (payload : List Byte) :
    OnTheWay (abortCaptureWork payload s).1 := by
  unfold Machine.abortCaptureWork
  split <;> [exact h.congr rfl rfl (.inr rfl) rfl; exact h]

/-- A request for node access moves the slots alone (R15). -/
theorem OnTheWay.ofSlots {s : State} (h : OnTheWay s) (slots : Vector Slot 2) :
    OnTheWay (s.modifyLink fun l => { l with slots := slots }) := h.congr rfl rfl (.inr rfl) rfl

/-! ### The commands -/

theorem OnTheWay.supplyMeasurement {s : State} (h : OnTheWay s) (v : Nat) :
    ∃ t, execSupplyMeasurement v s = .next t ∧ OnTheWay t := by
  have measured : OnTheWay (s.measured (min v 400)) := h.congr rfl rfl (.inr rfl) rfl
  have raised : OnTheWay ((s.measured (min v 400)).raise .supply) :=
    measured.of_blocks (by simp [Block.kept]) (by simp [Block.kept]) (by simp [Block.kept])
  have aborted : ∀ u, OnTheWay u → OnTheWay u.abortCapture := fun u hu =>
    ⟨hu.waiting.abortCapture, (u.abortCapture_changes.kept (b := .link) (by simp)) ▸ hu.tags⟩
  unfold execSupplyMeasurement
  split
  · refine ⟨_, rfl, ?_⟩
    unfold State.supplyChanged
    split
    · exact measured
    · split
      · unfold State.supplyLow
        split <;> [exact aborted _ (raised.congr rfl rfl (.inr rfl) rfl); exact aborted _ raised]
      · exact raised
  · exact ⟨s, rfl, h⟩

/-- The cycle timer counts up to its cap (R26). -/
theorem OnTheWay.clockTick {s : State} (h : OnTheWay s) : ∃ t, execClockTick s = .next t ∧ OnTheWay t := by
  have ticked : s.tracker.tick.timer ≤ max16 ∧ s.tracker.tick.held = s.tracker.held := by
    unfold Tracker.tick
    split
    · exact ⟨h.waiting.timer, rfl⟩
    · exact ⟨Nat.min_le_right _ _, rfl⟩
  unfold execClockTick
  split
  · refine ⟨_, rfl, ⟨ticked.1, fun w hw => ?_, h.waiting.items⟩, h.tags⟩
    exact h.waiting.held w (ticked.2 ▸ hw)
  · exact ⟨_, rfl, h.congr rfl rfl (.inr rfl) rfl⟩
  · exact ⟨_, rfl, h⟩
  · exact ⟨_, rfl, h⟩

theorem OnTheWay.requestGrant {c : Instr} {s : State} (h : OnTheWay s)
    (hw : ¬(c.writesLink = false ∧ c.writesTracker = false)) (hc : c.request ≠ none) :
    ∃ t, exec c s = .next t ∧ OnTheWay t := by
  cases c <;> simp only [Instr.request, Instr.writesLink, Instr.writesTracker, Instr.writesWindow, Instr.bringsTruck,
    Instr.endsSweep, Bool.or_false, Bool.or_self, ne_eq, not_true_eq_false, and_self] at hc hw
  case viewNodes => exact h.grantRequest _ _ _ fun _ u hu => hu.congr rfl rfl (.inr rfl) rfl
  case nodeAccess =>
    refine h.grantRequest _ _ _ fun payload u hu => ?_
    obtain ⟨slots, work⟩ := nodeAccessWork_slots payload u
    exact work ▸ hu.ofSlots slots
  case nodeResult =>
    refine h.grantRequest _ _ _ fun payload u hu => ?_
    obtain ⟨slots, work⟩ := nodeResultWork_slots payload u
    exact work ▸ hu.ofSlots slots
  case assignTruck =>
    exact h.grantRequest _ _ _ (OnTheWay.steadyWork assignTruckWork_steady assignTruckWork_changes (by simp))
  case closeLoad p =>
    exact h.grantRequest _ _ _ (OnTheWay.steadyWork (closeLoadWork_steady p) (closeLoadWork_changes p) (by simp))
  case zeroBucket => exact h.grantRequest _ _ _ fun payload u hu => hu.zeroBucketWork payload
  case cancelZero => exact h.grantRequest _ _ _ fun _ u hu => hu.congr rfl rfl (.inr rfl) rfl
  case startCapture => exact h.grantRequest _ _ _ fun payload u hu => hu.startCaptureWork payload
  case abortCapture => exact h.grantRequest _ _ _ fun payload u hu => hu.abortCaptureWork payload

/-- Every command but a reset keeps what is on its way to the bays in range. -/
theorem OnTheWay.exec {c : Instr} {s : State} (h : OnTheWay s) (hr : c.resets = false) :
    ∃ t, exec c s = .next t ∧ OnTheWay t := by
  by_cases hi : c.grantsItem = true
  · exact h.itemGrant hi
  by_cases hw : c.writesLink = false ∧ c.writesTracker = false
  · obtain ⟨hlink, htracker⟩ := hw
    have hitems : c.writesItems = false := by
      cases c <;> simp_all [Instr.writesItems, Instr.writesLink, Instr.writesTracker, Instr.writesWindow]
    obtain ⟨t, ht, others⟩ := exec_leavesOthers hr s
    exact ⟨t, ht, h.of_blocks (others .link hlink) (others .tracker htracker) (others .items hitems)⟩
  by_cases hq : c.request = none
  case neg => exact h.requestGrant hw hq
  by_cases hl : c.writesLink = true
  · exact h.transaction hl hq
  cases c <;> simp only [Instr.request, Instr.grantsItem, Instr.writesLink, Instr.writesTracker, Instr.writesWindow,
    Instr.bringsTruck, Instr.endsSweep, Bool.or_false, Bool.or_self, reduceCtorEq, not_true_eq_false, Bool.or_true,
    and_self] at hi hq hl hw
  case supplyMeasurement v => exact h.supplyMeasurement v
  case clockTick => exact h.clockTick

/-! ### The statement -/

theorem bayLaw_iff (s : State) : BayLaw s ↔ BaysLawful s ∧ OnTheWay s := by
  constructor
  · rintro ⟨left, right, differ, positive, bounded, timer, held, items, tags⟩
    exact ⟨.of_bays .left left right differ ⟨positive, bounded⟩, ⟨timer, held, items⟩, tags⟩
  · rintro ⟨bays, ⟨timer, held, items⟩, tags⟩
    exact ⟨bays.consistent .left, bays.consistent .right, bays.differ .left, bays.positive, bays.bounded, timer, held,
      items, tags⟩

/-- A pin reset empties the bays, and keeps the next load number (R101, R166). -/
theorem BayLaw.pinReset {s : State} (h : BayLaw s) : BayLaw s.pinReset := by
  have bay : (Bay.afterReset s.cal.profile).consistent := by
    refine ⟨rfl, rfl, by simp [Bay.afterReset], by simp [Bay.afterReset], rfl, by simp [Bay.afterReset], fun _ => ?_⟩
    exact ⟨rfl, rfl, rfl, rfl⟩
  obtain ⟨bays, _⟩ := (bayLaw_iff s).1 h
  refine (bayLaw_iff _).2 ⟨.of_bays .left bay bay (tagsDiffer_of_none rfl) ⟨bays.positive, bays.bounded⟩,
    ⟨Nat.zero_le _, ?_, ?_⟩, ?_⟩ <;> rintro _ ⟨⟩

theorem BayLaw.dropWork {s : State} (h : BayLaw s) : BayLaw s.dropWork := by
  obtain ⟨bays, waiting, tags⟩ := (bayLaw_iff s).1 h
  refine (bayLaw_iff _).2 ⟨⟨bays.consistent, bays.differ, bays.positive, bays.bounded⟩,
    ⟨waiting.timer, waiting.held, ?_⟩, ?_⟩ <;> rintro _ ⟨⟩

/-- Settles O50: a reset aside, a bay changes by one of twelve changes or a restore, each of which forms it anew within
its law, from figures that were in range on their way to it. -/
theorem stepsKeepBays : Obligations.StepsKeepBays := by
  intro s t h hs
  refine step_keeps (P := BayLaw) (fun _ _ hu => hu) (fun c u hu => ?_) h hs
  by_cases hr : c.resets = true
  · exact exec_reset_keeps hr hu (fun _ _ => reset_bayLaw) (fun _ _ h => h) (fun _ h => h.dropWork)
      fun _ h => h.pinReset
  · rw [Bool.not_eq_true] at hr
    obtain ⟨bays, onTheWay⟩ := (bayLaw_iff u).1 hu
    obtain ⟨v, hv, w, asked, worked⟩ := exec_loads hr u
    obtain ⟨v', hv', arrived⟩ := onTheWay.exec hr
    rw [hv] at hv'
    cases hv'
    exact ⟨v, hv, (bayLaw_iff v).2 ⟨(bays.of_same asked.loads).work hu worked, arrived⟩⟩

end Sys2Proof.Machine
end

section
/-! Every step whose load numbers do not wrap keeps the load numbers distinct and the log in their order (R100, R101,
R150), and a fresh part's log empty (R177). -/

namespace Sys2Proof.Machine

/-! ### A fresh part has logged nothing (R177, R190) -/

/-- A grant after which the part is fresh has left the log's records (R177). -/
theorem State.settle_fresh_records {pre s : State} (h : (pre.settle s).arb.fresh = true) :
    s.log.records = pre.log.records := by
  rw [State.settle_arb] at h
  simp only [Bool.and_eq_true, Bool.not_eq_true', recordsChanged, Bool.or_eq_false_iff, decide_eq_false_iff_not,
    ne_eq, Decidable.not_not] at h
  obtain ⟨_, _, records⟩ := h
  exact records.symm

/-- A command after which the part is fresh found it fresh, and has left the log's records. -/
theorem exec_fresh_records {c : Instr} (hr : c.resets = false) (s : State) : ∃ t, exec c s = .next t ∧
    (t.arb.fresh = true → s.arb.fresh = true ∧ t.log.records = s.log.records) := by
  have records : ∃ t, exec c s = .next t ∧ (t.arb.fresh = true → t.log.records = s.log.records) := by
    by_cases hq : c.request = none
    case neg =>
      obtain ⟨⟨k, p⟩, hkp⟩ := Option.ne_none_iff_exists'.1 hq
      obtain ⟨calen, work, _, hexec, _⟩ := exec_request_changes hkp
      have ended : ∀ (u : State) (a : Answer), ((s.settle u).answer p a).arb.fresh = true →
          ((s.settle u).answer p a).log.records = s.log.records := by
        intro u a fresh
        simpa using State.settle_fresh_records (by simpa using fresh)
      rw [hexec]
      exact grantRequest_keeps (fun _ => rfl) (fun _ _ _ _ => ended _ _) fun _ _ _ _ _ _ => ended _ _
    by_cases hi : c.grantsItem = true
    case pos =>
      obtain ⟨work, _, hexec, _⟩ := exec_item_changes hi
      rw [hexec]
      refine grantItem_keeps (fun _ => rfl) fun i f _ _ _ fresh => ?_
      simpa using State.settle_fresh_records fresh
    obtain ⟨t, ht, others⟩ := exec_leavesOthers hr s
    refine ⟨t, ht, fun _ => others .logRecords ?_⟩
    cases c <;> simp_all [Instr.mayChange, Instr.clearsFresh, Instr.request, Instr.grantsItem, Instr.bringsTruck]
  obtain ⟨t, ht, kept⟩ := records
  exact ⟨t, ht, fun fresh => ⟨(leavesOthers.of_exec hr ht) .staleness rfl fresh, kept fresh⟩⟩

/-! ### The numbers of the log (R148 to R150) -/

/-- An append to the log first loses its oldest record, if any (R148). -/
theorem Log.append_records (l : Log) (r : LogRecord) :
    ∃ kept, kept.Sublist l.records ∧ (l.append r).records = kept ++ [r] := by
  unfold Log.append
  dsimp only
  split
  · exact ⟨_, List.tail_sublist _, rfl⟩
  · exact ⟨_, List.Sublist.refl _, rfl⟩

theorem Log.append_load_numbers (l : Log) (r : LoadRecord) :
    ∃ kept, kept.Sublist l.loadNumbers ∧ (l.append (.load r)).loadNumbers = kept ++ [r.load] := by
  obtain ⟨kept, sub, records⟩ := l.append_records (.load r)
  refine ⟨kept.filterMap LogRecord.loadNumber, sub.filterMap _, ?_⟩
  unfold Log.loadNumbers
  rw [records, List.filterMap_append]
  rfl

theorem Log.append_shift_numbers (l : Log) (r : ShiftRecord) :
    (l.append (.shift r)).loadNumbers.Sublist l.loadNumbers := by
  obtain ⟨kept, sub, records⟩ := l.append_records (.shift r)
  unfold Log.loadNumbers
  have numberless : [LogRecord.shift r].filterMap LogRecord.loadNumber = [] := rfl
  rw [records, List.filterMap_append, numberless, List.append_nil]
  exact sub.filterMap _

/-! ### Numbers in order (R100, R101, R150) -/

/-- The part of the law that speaks of load numbers. -/
structure LoadsNumbered (s : State) : Prop where
  distinct : ∀ d, (s.bay d).load ≠ 0 → (s.bay d).load ≠ (s.bay d.other).load
  order : ∀ d, loadInOrder (s.bay d).load s.bays.nextLoad s.log.loadNumbers
  sorted : s.log.loadNumbers.Pairwise fun a b => a < b
  below : ∀ n ∈ s.log.loadNumbers, n < s.bays.nextLoad

theorem numberLaw_iff (s : State) :
    NumberLaw s ↔ LoadsNumbered s ∧ (s.arb.fresh = true → s.log.records = []) := by
  constructor
  · rintro ⟨distinct, left, right, sorted, below, fresh⟩
    refine ⟨⟨Side.forall_of .left distinct fun loaded same => ?_, Side.forall_of .left left right, sorted, below⟩, fresh⟩
    exact distinct (same ▸ loaded) same.symm
  · rintro ⟨⟨distinct, order, sorted, below⟩, fresh⟩
    exact ⟨distinct .left, order .left, order .right, sorted, below, fresh⟩

/-- Bays keep their loads or give them up, and the log loses records at most. -/
theorem LoadsNumbered.congr {s t : State} (h : LoadsNumbered s)
    (hb : ∀ d, (t.bay d).load = (s.bay d).load ∨ (t.bay d).load = 0) (next : t.bays.nextLoad = s.bays.nextLoad)
    (logged : t.log.loadNumbers.Sublist s.log.loadNumbers) : LoadsNumbered t := by
  refine ⟨fun d loaded => ?_, fun d => ?_, h.sorted.sublist logged, fun n hn => next ▸ h.below n (logged.subset hn)⟩
  · have here := (hb d).resolve_right loaded
    rcases hb d.other with beside | beside
    · rw [here, beside]
      exact h.distinct d (here ▸ loaded)
    · rw [beside]
      exact loaded
  · obtain ⟨below, above⟩ := h.order d
    rw [next]
    rcases hb d with kept | gone
    · rw [kept]
      exact ⟨below, fun loaded n hn => above loaded n (logged.subset hn)⟩
    · rw [gone]
      exact ⟨by omega, fun loaded => absurd rfl loaded⟩

theorem LoadsNumbered.of_same {s t : State} (h : LoadsNumbered s) (same : sameLoads s t) : LoadsNumbered t := by
  have bay : ∀ d, t.bay d = s.bay d := fun d => congrArg (Sides.get · d) same.bay
  refine h.congr (fun d => .inl (congrArg _ (bay d))) same.nextLoad ?_
  unfold Log.loadNumbers
  rw [same.records]

theorem LoadsNumbered.modifyBay {s : State} (h : LoadsNumbered s) (d : Side) {f : Bay → Bay}
    (hf : (f (s.bay d)).load = (s.bay d).load ∨ (f (s.bay d)).load = 0) : LoadsNumbered (s.modifyBay d f) := by
  refine h.congr (Side.forall_of d ?_ ?_) rfl (.refl _)
  · cases d <;> exact hf
  · cases d <;> exact .inl rfl

/-- A load opens with the next number, above every other (R100). -/
theorem LoadsNumbered.opens {s t : State} (h : LoadsNumbered s) (d : Side)
    (here : (t.bay d).load = s.bays.nextLoad) (beside : (t.bay d.other).load = (s.bay d.other).load)
    (next : t.bays.nextLoad = s.bays.nextLoad + 1) (log : t.log = s.log) : LoadsNumbered t := by
  have other : d.other.other = d := by cases d <;> rfl
  obtain ⟨besideBelow, besideAbove⟩ := h.order d.other
  refine ⟨Side.forall_of d (fun _ => ?_) fun _ => ?_, Side.forall_of d ⟨?_, ?_⟩ ⟨?_, ?_⟩, log ▸ h.sorted, fun n hn => ?_⟩
  · omega
  · rw [other]
    omega
  · omega
  · rw [here, log]
    exact fun _ => h.below
  · omega
  · rw [beside, log]
    exact besideAbove
  · rw [log] at hn
    have := h.below n hn
    omega

/-- A close logs the load's number, and the load beside takes the next one when its own is lower (R101, R114). -/
theorem LoadsNumbered.closes {s : State} (h : LoadsNumbered s) (d : Side) (reason : CloseReason)
    (loaded : (s.bay d).load ≠ 0) (room : s.bays.nextLoad < max32) : LoadsNumbered (s.closeLoad d reason) := by
  obtain ⟨kept, sub, numbers⟩ := s.log.append_load_numbers (closing (s.bay d) d reason s)
  obtain ⟨below, above⟩ := h.order d
  obtain ⟨besideBelow, besideAbove⟩ := h.order d.other
  have distinct := h.distinct d loaded
  have member : ∀ n ∈ (s.log.append (.load (closing (s.bay d) d reason s))).loadNumbers, n ≤ (s.bay d).load := by
    intro n hn
    rw [numbers] at hn
    rcases List.mem_append.1 hn with hn | hn
    · exact (above loaded n (sub.subset hn)).le
    · exact (List.mem_singleton.1 hn).le
  have sorted : (s.log.append (.load (closing (s.bay d) d reason s))).loadNumbers.Pairwise fun a b => a < b := by
    rw [numbers, List.pairwise_append]
    refine ⟨h.sorted.sublist sub, List.pairwise_singleton _ _, fun a ha b hb => ?_⟩
    rw [List.mem_singleton.1 hb]
    exact above loaded a (sub.subset ha)
  have after : nextLoadAfter s.bays.nextLoad = s.bays.nextLoad + 1 := if_neg (by omega)
  have beside : (s.numbersBeside d).1 < (s.numbersBeside d).2 ∧ (s.bay d).load < (s.numbersBeside d).2 ∧
      ((s.numbersBeside d).1 ≠ 0 → (s.bay d).load < (s.numbersBeside d).1) := by
    unfold State.numbersBeside renumbered
    split
    · dsimp only
      omega
    · dsimp only
      omega
  obtain ⟨lower, next, higher⟩ := beside
  have bays : ∀ {P : Nat → Nat → Prop}, P 0 (s.numbersBeside d).1 → P (s.numbersBeside d).1 0 →
      ∀ e, P ((s.closeLoad d reason).bay e).load ((s.closeLoad d reason).bay e.other).load := by
    intro P here there e
    rw [State.closeLoad_eq]
    cases d <;> cases e <;> assumption
  have nextLoad : (s.closeLoad d reason).bays.nextLoad = (s.numbersBeside d).2 := by rw [State.closeLoad_eq]
  have log : (s.closeLoad d reason).log = s.log.append (.load (closing (s.bay d) d reason s)) := by
    rw [State.closeLoad_eq]
  refine ⟨bays (P := fun a b => a ≠ 0 → a ≠ b) (fun zero => absurd rfl zero) id, ?_, log ▸ sorted, ?_⟩
  · rw [nextLoad, log]
    refine bays (P := fun a _ => loadInOrder a (s.numbersBeside d).2 _) ⟨by omega, fun zero => absurd rfl zero⟩
      ⟨lower, fun held n hn => (member n hn).trans_lt (higher held)⟩
  · rw [nextLoad, log]
    exact fun n hn => (member n hn).trans_lt next

/-- A change takes one load number at most (R100, R101). -/
theorem LoadChange.nextLoad_le {law : Prop} {s t : State} (hc : LoadChange law s t) :
    t.bays.nextLoad ≤ s.bays.nextLoad + 1 := by
  have after : nextLoadAfter s.bays.nextLoad ≤ s.bays.nextLoad + 1 := by
    unfold nextLoadAfter
    split <;> omega
  have kept : s.bays.nextLoad ≤ s.bays.nextLoad + 1 := Nat.le_succ _
  cases hc with
  | opensFor d tag =>
    rw [State.openFor_eq]
    exact after
  | opensAnonymous d =>
    rw [State.openAnonymous_eq]
    exact after
  | readdresses d tag =>
    rw [State.readdress_eq]
    exact kept
  | commits d w time => exact (sameLoads_commit s d w time).nextLoad ▸ kept
  | closes d reason =>
    rw [State.closeLoad_eq]
    change (s.numbersBeside d).2 ≤ _
    unfold State.numbersBeside renumbered
    split <;> [exact after; exact kept]
  | writesTruck tag target max material pinned way =>
    unfold State.writeTruck
    split
    · exact kept
    · split
      · dsimp only
        rw [State.place_eq]
        exact kept
      · exact kept
  | endsShift p => exact kept
  | takesOff => exact kept
  | retargets => exact kept
  | cancels => exact kept
  | dropsTruck => exact kept
  | setsProfile => exact kept

theorem LoadsNumbered.change {law : Prop} {s t : State} (h : LoadsNumbered s) (bays : BaysLawful s)
    (room : s.bays.nextLoad < max32) (hc : LoadChange law s t) : LoadsNumbered t := by
  have after : nextLoadAfter s.bays.nextLoad = s.bays.nextLoad + 1 := if_neg (by omega)
  cases hc with
  | opensFor d tag =>
    rw [State.openFor_eq]
    refine h.opens d ?_ ?_ after rfl <;> cases d <;> rfl
  | opensAnonymous d =>
    rw [State.openAnonymous_eq]
    refine h.opens d ?_ ?_ after rfl <;> cases d <;> rfl
  | readdresses d tag =>
    rw [State.readdress_eq]
    exact h.congr (fun e => .inl (by cases d <;> cases e <;> rfl)) rfl (.refl _)
  | commits d w time =>
    refine LoadsNumbered.of_same ?_ (sameLoads_commit s d w time)
    exact h.modifyBay d (.inl rfl)
  | takesOff d => exact h.modifyBay d (.inl rfl)
  | retargets d => exact h.modifyBay d (.inl rfl)
  | cancels d => exact h.modifyBay d (.inr rfl)
  | closes d reason loaded => exact h.closes d reason (fun zero => loaded ((bays.consistent d).empty_iff.2 zero)) room
  | writesTruck tag target max material pinned way =>
    unfold State.writeTruck
    split
    · exact h.congr (fun _ => .inl rfl) rfl (.refl _)
    · split
      · dsimp only
        rw [State.place_eq]
        exact h.congr (fun d => .inl (by cases d <;> rfl)) rfl (.refl _)
      · exact h
  | dropsTruck tag ref =>
    have lost : ∀ b : Bay, (b.loseRef ref).load = b.load := by
      intro b
      unfold Bay.loseRef
      split <;> rfl
    exact h.congr (Side.forall_of .left (.inl (lost _)) (.inl (lost _))) rfl (.refl _)
  | endsShift p => exact h.congr (fun _ => .inl rfl) rfl (s.log.append_shift_numbers _)
  | setsProfile => exact h.congr (fun _ => .inl rfl) rfl (.refl _)

/-- The loads of an accepted record are distinct and below its next number (V4 and V7 of R189), and nothing is logged
on a fresh part. -/
theorem LoadsNumbered.restore {payload : List Byte} {r : RawSnapshot} (hr : checkSnapshot payload = .ok r) {s : State}
    (blank : s.log.records = []) : LoadsNumbered (s.restore r) := by
  obtain ⟨_, passed⟩ := checkSnapshot_ok hr
  obtain ⟨left, right, numbers, _⟩ := RawSnapshot.checked_of_failing passed
  simp only [RawSnapshot.numbersOk, Bool.and_eq_true, Bool.or_eq_true, bne_iff_ne, beq_iff_eq, decide_eq_true_eq]
    at numbers
  obtain ⟨⟨⟨⟨_, distinct⟩, nextL⟩, nextR⟩, _⟩ := numbers
  have unloaded : ∀ b : RawBay, b.checked → b.state = 0 → b.load = 0 := by
    intro b hb code
    have load := hb.load
    simp only [RawBay.loadOk, code, if_true, Bool.and_eq_true, beq_iff_eq] at load
    obtain ⟨⟨⟨zero, _⟩, _⟩, _⟩ := load
    exact zero
  have apart : r.left.load ≠ 0 → r.right.load ≠ 0 → r.left.load ≠ r.right.load := fun loadedL loadedR =>
    (distinct.resolve_left (not_or.2 ⟨mt (unloaded _ left) loadedL, mt (unloaded _ right) loadedR⟩))
  have logged : (s.restore r).log.loadNumbers = [] := congrArg (List.filterMap LogRecord.loadNumber) blank
  have below : ∀ load, load = 0 ∨ load < r.nextLoad → loadInOrder load r.nextLoad (s.restore r).log.loadNumbers := by
    intro load next
    rw [logged]
    exact ⟨by omega, by simp⟩
  refine ⟨Side.forall_of .left (fun loaded same => ?_) (fun loaded same => ?_), Side.forall_of .left (below _ nextL)
    (below _ nextR), logged ▸ .nil, by simp [logged]⟩
  · exact apart loaded (fun zero => loaded (same.trans zero)) same
  · exact apart (fun zero => loaded (same.trans zero)) loaded same.symm

theorem LoadsNumbered.work {law : Prop} {s t : State} (h : LoadsNumbered s) (hl : law) (bays : BaysLawful s)
    (room : s.bays.nextLoad + 2 ≤ max32) (blank : s.arb.fresh = true → s.log.records = [])
    (hw : LoadWork law s t) : LoadsNumbered t := by
  cases hw with
  | leaves same => exact h.of_same same
  | one u change same => exact (h.change bays (by omega) change).of_same same
  | two u v first second same =>
    have next := first.nextLoad_le
    exact ((h.change bays (by omega) first).change (bays.change hl first) (by omega) second).of_same same
  | restores _ r fresh checked same => exact (LoadsNumbered.restore checked (blank fresh)).of_same same

/-! ### The statement -/

/-- A pin reset empties the bays and the log, and keeps the next load number (R101, R150, R166). -/
theorem NumberLaw.pinReset {s : State} (h : NumberLaw s) : NumberLaw s.pinReset := by
  have ⟨_, ⟨below, _⟩, _⟩ := h
  refine (numberLaw_iff _).2 ⟨⟨?_, ?_, .nil, ?_⟩, fun _ => rfl⟩
  · exact Side.forall_of .left (fun loaded => absurd rfl loaded) fun loaded => absurd rfl loaded
  · have order : loadInOrder 0 s.bays.nextLoad [] := ⟨by omega, fun loaded => absurd rfl loaded⟩
    exact Side.forall_of .left order order
  · rintro n ⟨⟩

/-- A step takes the next command, or has none to take. -/
theorem step_cases {s t : State} (h : step s = .next t) :
    t = s ∨ ∃ c rest, exec c { s with pending := rest } = .next t := by
  unfold step at h
  split at h
  · cases h
    exact .inl rfl
  · exact .inr ⟨_, _, h⟩

/-- Settles O52: a reset aside, a command takes at most two load numbers, each above every other, and logs only the
number of the load that it closes, above all logged before. -/
theorem stepsKeepLoadNumbers : Obligations.StepsKeepLoadNumbers := by
  intro s t hb room hn hs
  obtain rfl | ⟨c, rest, hx⟩ := step_cases hs
  · exact hn
  generalize hu : { s with pending := rest } = u at hx
  have numbers : NumberLaw u := hu ▸ hn
  by_cases hr : c.resets = true
  · obtain ⟨v, hv, kept⟩ := exec_reset_keeps hr numbers (fun _ _ => reset_numberLaw) (fun _ _ h => h) (fun _ h => h)
      fun _ h => h.pinReset
    rw [hx] at hv
    cases hv
    exact kept
  rw [Bool.not_eq_true] at hr
  have law : BayLaw u := hu ▸ hb
  have next : u.bays.nextLoad + 2 ≤ max32 := hu ▸ room
  obtain ⟨numbered, blank⟩ := (numberLaw_iff u).1 numbers
  obtain ⟨v, hv, w, asked, worked⟩ := exec_loads hr u
  obtain ⟨v', hv', fresh⟩ := exec_fresh_records hr u
  rw [hx] at hv hv'
  cases hv
  cases hv'
  refine (numberLaw_iff t).2 ⟨?_, fun ht => ?_⟩
  · refine (numbered.of_same asked.loads).work law (((bayLaw_iff u).1 law).1.of_same asked.loads) ?_ ?_ worked
    · rw [asked.loads.nextLoad]
      exact next
    · rw [asked.fresh, asked.loads.records]
      exact blank
  · obtain ⟨before, records⟩ := fresh ht
    rw [records, blank before]

end Sys2Proof.Machine
end

section
/-! SUPPORT. What a grant that changes bays comes to (R97, R173 to R177): the state that its work leaves, the answer,
and one BAY for each bay that has changed. -/

namespace Sys2Proof.Machine

/-! ### The notices of a grant's work (R182) -/

/-- No BAY has been raised. -/
abbrev quietBays (s t : State) : Prop :=
  ∀ p, (t.port p).pacer.count .bay = (s.port p).pacer.count .bay ∧ (t.port p).pacer.bayBays = (s.port p).pacer.bayBays

theorem quietBays.of_pacers {s t : State} (h : ∀ p, (t.port p).pacer = (s.port p).pacer) : quietBays s t :=
  fun p => by simp only [h p, and_self]

theorem quietBays.of_ports {s t : State} (h : t.ports = s.ports) : quietBays s t :=
  .of_pacers fun p => by rw [State.port_of_ports h]

/-- A notice of another kind than BAY. -/
theorem quietBays.of_raised {s t : State} {n : Notice} (hn : n.kind ≠ .bay) (h : t.ports = (s.raise n).ports) :
    quietBays s t := by
  intro p
  rw [State.port_of_ports h, State.count_raise, State.pacer_raise, if_neg fun hk => hn hk.1.symm]
  refine ⟨rfl, ?_⟩
  split
  · rfl
  · rw [Pacer.bayBays_raise]
    split <;> [exact absurd rfl hn; rfl]

theorem quietBays.trans {s t u : State} (h : quietBays s t) (h' : quietBays t u) : quietBays s u :=
  fun p => ⟨(h' p).1.trans (h p).1, (h' p).2.trans (h p).2⟩

/-! ### The end of a grant -/

/-- The state after a grant whose work left `w`: the ports but for the pacers are what the answer makes of them, BAY
has been raised for the bays that changed, and the fresh flag is settled. -/
structure GrantEnded (s w t : State) : Prop where
  frame : t = { w with ports := t.ports, arb := t.arb }
  arb : t.arb = { w.arb with fresh := w.arb.fresh && !recordsChanged s w }
  bays : bayNotices s t
  counts : ∀ p k, k ≠ .bay → (t.port p).pacer.count k = (w.port p).pacer.count k

theorem GrantEnded.settle {s w : State} (h : quietBays s w) : GrantEnded s w (s.settle w) := by
  refine ⟨?_, State.settle_arb w s, State.settle_bayNotices (fun p => (h p).1) fun p => (h p).2,
    fun p k hk => State.count_settle s w p k hk⟩
  apply State.eq_of_fields <;> simp

/-- The end of a grant, and the answer to its request. -/
theorem GrantEnded.answer {s w t : State} (h : GrantEnded s w t) (p : Port) (a : Answer) :
    GrantEnded s w (t.answer p a) := by
  have pacer : ∀ q, ((t.answer p a).port q).pacer = (t.port q).pacer := fun q => t.pacer_answer p q a
  refine ⟨?_, h.arb, fun q => ?_, fun q k hk => ?_⟩
  · rw [h.frame]
    rfl
  · rw [pacer]
    exact h.bays q
  · rw [pacer]
    exact h.counts q k hk

/-- A request has been granted: the work left `w`, and its answer stands at the newest end of the port's buffer. -/
structure RequestActed (s w t : State) (p : Port) (r : Request) (rest : List Request) (reply : Reply) : Prop extends
    GrantEnded s w t where
  queue : (t.port p).queue = rest
  answers : (t.port p).answers = (s.port p).answers ++ [⟨r.tag, reply⟩]
  otherQueue : (t.port p.other).queue = (s.port p.other).queue
  otherAnswers : (t.port p.other).answers = (s.port p.other).answers

/-- The state in which a request is granted: it has left its queue, and nothing else has changed but the last port
served. -/
theorem State.granted_port (s : State) (p : Port) (rest : List Request) :
    (s.granted p rest).port p = { s.port p with queue := rest } ∧
      (s.granted p rest).port p.other = s.port p.other := by
  cases p <;> exact ⟨rfl, rfl⟩

theorem State.granted_pacer (s : State) (p q : Port) (rest : List Request) :
    ((s.granted p rest).port q).pacer = (s.port q).pacer := by
  cases p <;> cases q <;> rfl

/-- An offered request whose work leaves the ports but for their pacers, and raises no BAY. -/
theorem Offers.acts {s w : State} {p : Port} {r : Request} {rest : List Request} {k : ReqKind} {reply : Reply}
    {work : List Byte → State → State × Reply} (h : Offers s p k r rest)
    (hd : denial k p (s.granted p rest).pins.calen = none) (hw : work r.payload (s.granted p rest) = (w, reply))
    (hp : samePorts (s.granted p rest) w) (hb : quietBays (s.granted p rest) w) :
    ∃ t, grantRequest k p none work s = .next t ∧ RequestActed s w t p r rest reply := by
  have granted : grantRequest k p none work s = .next ((s.settle (work r.payload (s.granted p rest)).1).answer p
    ⟨r.tag, (work r.payload (s.granted p rest)).2⟩) := h.grant none work hd
  rw [hw] at granted
  have before : quietBays s (s.granted p rest) := .of_pacers fun q => s.granted_pacer p q rest
  obtain ⟨queue, answers, otherQueue, otherAnswers⟩ := State.answer_settle_port s w p ⟨r.tag, reply⟩
  obtain ⟨own, other⟩ := s.granted_port p rest
  refine ⟨_, granted, (GrantEnded.settle (before.trans hb)).answer p _, ?_, ?_, ?_, ?_⟩
  · rw [queue, hp p, own]
  · rw [answers, hp p, own]
  · rw [otherQueue, hp p.other, other]
  · rw [otherAnswers, hp p.other, other]

/-- An offered item whose work leaves the ports but for their pacers, and raises no BAY. -/
theorem OffersItem.acts {s : State} {i : Item} {rest : List Item} {work : Item → Option (State → State)}
    {f : State → State} (h : OffersItem s i rest) (hw : work i = some f)
    (hp : samePorts s (f { s with arb := { s.arb with items := rest } }))
    (hb : quietBays s (f { s with arb := { s.arb with items := rest } })) :
    ∃ t, grantItem work s = .next t ∧ GrantEnded s (f { s with arb := { s.arb with items := rest } }) t ∧
      samePorts s t :=
  ⟨_, h.grant hw, .settle hb, fun p => by rw [State.port_settle, hp p]⟩

end Sys2Proof.Machine
end

section
/-! A truck that arrives at a bay (R103 to R107): the four rows of R105 and R106, as a tag event and ASSIGN_TRUCK grant
them. -/

namespace Sys2Proof.Machine

/-! ### The four rows -/

/-- An arriving truck leaves the ports but for a LOGGED. -/
theorem State.truckArrives_samePorts (s : State) (d : Side) (tag : Nat) : samePorts s (s.truckArrives d tag) := by
  rcases s.truckArrives_ports d tag with h | h
  · exact .of_ports h
  · exact (raised_ports (n := .logged) (by decide) rfl h).1

theorem State.truckArrives_quietBays (s : State) (d : Side) (tag : Nat) : quietBays s (s.truckArrives d tag) := by
  rcases s.truckArrives_ports d tag with h | h
  · exact .of_ports h
  · exact .of_raised (n := .logged) (by decide) h

/-- What an arriving truck leaves alone, whichever row applies. -/
theorem State.truckArrives_frame (s : State) (d : Side) (tag : Nat) :
    arrivalFrame s (s.truckArrives d tag) ∧ (s.truckArrives d tag).bays.crossReads = s.bays.crossReads := by
  rcases s.truckArrives_cases d tag with ⟨_, h⟩ | h | ⟨_, h⟩ | ⟨_, _, h⟩ <;> rw [h]
  · rw [State.openFor_eq]
    exact ⟨⟨rfl, rfl, rfl, rfl, rfl⟩, rfl⟩
  · exact ⟨⟨rfl, rfl, rfl, rfl, rfl⟩, rfl⟩
  · rw [State.readdress_eq]
    exact ⟨⟨rfl, rfl, rfl, rfl, rfl⟩, rfl⟩
  · rw [State.openFor_eq, State.closeLoad_eq]
    exact ⟨⟨rfl, rfl, rfl, rfl, rfl⟩, rfl⟩

/-- What an arriving truck does depends on neither the ports nor the arbiter, and of the ports on the pacers alone. -/
theorem State.truckArrives_asked {s u : State} (hu : u = { s with ports := u.ports, arb := u.arb })
    (hp : ∀ p, (u.port p).pacer = (s.port p).pacer) (d : Side) (tag : Nat) :
    u.truckArrives d tag = { s.truckArrives d tag with ports := (u.truckArrives d tag).ports, arb := u.arb } ∧
      ∀ p, ((u.truckArrives d tag).port p).pacer = ((s.truckArrives d tag).port p).pacer := by
  have bay : u.bay d = s.bay d := by rw [hu]; rfl
  by_cases empty : (s.bay d).state = .empty
  · rw [State.truckArrives_empty empty, State.truckArrives_empty (s := u) (bay ▸ empty), State.openFor_eq,
      State.openFor_eq]
    exact ⟨by rw [hu]; rfl, hp⟩
  by_cases same : (s.bay d).tag = some tag
  · rw [State.truckArrives_same empty same, State.truckArrives_same (s := u) (bay ▸ empty) (bay ▸ same)]
    exact ⟨hu, hp⟩
  by_cases again : (s.bay d).state = .ready ∨ (s.bay d).tag = none
  · have readdressed := again.imp (fun ready => And.intro ready same) (And.intro empty)
    rw [State.truckArrives_readdressed readdressed, State.truckArrives_readdressed (s := u) (bay ▸ readdressed),
      State.readdress_eq, State.readdress_eq]
    exact ⟨by rw [hu]; rfl, hp⟩
  · obtain ⟨ready, anonymous⟩ := not_or.1 again
    have held := Option.isSome_iff_ne_none.2 anonymous
    rw [State.truckArrives_closes empty ready held same,
      State.truckArrives_closes (s := u) (bay ▸ empty) (bay ▸ ready) (bay ▸ held) (bay ▸ same), State.openFor_eq,
      State.openFor_eq, State.closeLoad_eq, State.closeLoad_eq]
    refine ⟨by rw [hu]; rfl, fun p => ?_⟩
    change ((u.raise .logged).port p).pacer = ((s.raise .logged).port p).pacer
    rw [State.pacer_raise, State.pacer_raise, hp]

/-! ### The words of the statements -/

/-- The log of the statements' words (R148, R149). -/
theorem Log.append_spec (l : Log) (r : LogRecord) :
    (l.append r).records = (if 64 ≤ l.records.length then l.records.drop 1 else l.records) ++ [r] ∧
      ∀ p, (64 ≤ l.records.length ∧ l.unread.get p = 64 → (l.append r).unread.get p = 64 ∧
          (l.append r).missed.get p = min (l.missed.get p + 1) 65535) ∧
        (¬(64 ≤ l.records.length ∧ l.unread.get p = 64) → (l.append r).unread.get p = l.unread.get p + 1 ∧
          (l.append r).missed.get p = l.missed.get p) := by
  have counts : ∀ unread missed : Nat,
      settleCounts (decide (64 ≤ l.records.length)) unread missed =
        if 64 ≤ l.records.length ∧ unread = 64 then (64, min (missed + 1) 65535) else (unread + 1, missed) := by
    intro unread missed
    simp [settleCounts, satAdd, max16]
  refine ⟨?_, fun p => ⟨fun full => ?_, fun room => ?_⟩⟩
  · simp [Log.append, List.drop_one]
  · cases p <;> simp only [Log.append, counts, Ports.get] at full ⊢ <;> simp [full]
  · cases p <;> simp only [Log.append, counts, Ports.get] at room ⊢ <;> simp [room]

/-- The row of R105 or R106 that applies, in the words of the statements. -/
theorem State.truckArrives_effect {s t : State} {d : Side} {tag : Nat}
    (ht : t = { s.truckArrives d tag with ports := t.ports, arb := t.arb }) (bayed : bayNotices s t)
    (logged : ∀ p, (t.port p).pacer.count .logged = ((s.truckArrives d tag).port p).pacer.count .logged) :
    ArrivalEffect s t d tag := by
  have frame : arrivalFrame s t ∧ t.bays.crossReads = s.bays.crossReads := by
    obtain ⟨⟨whole, active, report, tracker, shift⟩, crossReads⟩ := s.truckArrives_frame d tag
    rw [ht]
    exact ⟨⟨by rw [whole], active, report, tracker, shift⟩, crossReads⟩
  refine ⟨frame.1, frame.2, bayed, fun empty => ?_, fun loaded same => ?_, fun again => ?_,
    fun loaded ready held other => ?_⟩
  · rw [State.truckArrives_empty empty, State.openFor_eq] at ht logged
    have here : t.bay d = s.openedFor tag (s.bay d) := by rw [ht]; exact Sides.get_of_same ..
    have beside : t.bay d.other = s.besideTag tag (s.bay d.other) := by rw [ht]; exact Sides.get_of_other ..
    have trucks : t.trucks = s.trucksFor tag := by rw [ht]
    rw [here, beside, trucks]
    refine ⟨rfl, rfl, rfl, rfl, rfl, by rw [ht], s.identified_spec tag ⟨rfl, rfl, rfl, rfl, rfl⟩, rfl,
      ⟨by rw [ht], logged⟩, by rw [ht], by rw [ht]⟩
  · rw [State.truckArrives_same loaded same] at ht logged
    exact ⟨by rw [ht], by rw [ht], ⟨by rw [ht], logged⟩, by rw [ht], by rw [ht]⟩
  · rw [State.truckArrives_readdressed again, State.readdress_eq] at ht logged
    have here : t.bay d = (s.identified tag (s.bay d)).restate := by rw [ht]; exact Sides.get_of_same ..
    have beside : t.bay d.other = s.besideTag tag (s.bay d.other) := by rw [ht]; exact Sides.get_of_other ..
    have trucks : t.trucks = s.trucksFor tag := by rw [ht]
    rw [here, beside, trucks]
    refine ⟨rfl, rfl, rfl, rfl, rfl, by rw [ht], s.identified_spec tag ⟨rfl, rfl, rfl, rfl, rfl⟩, rfl,
      ⟨by rw [ht], logged⟩, by rw [ht], by rw [ht]⟩
  · rw [State.truckArrives_closes loaded ready held other, State.openFor_eq] at ht logged
    have closed := s.closeLoad_eq d .newTruck
    generalize s.closeLoad d .newTruck = c at ht logged closed
    have here : t.bay d = c.openedFor tag (c.bay d) := by rw [ht]; exact Sides.get_of_same ..
    have beside : t.bay d.other = c.besideTag tag (c.bay d.other) := by rw [ht]; exact Sides.get_of_other ..
    have other : c.bay d.other = { s.bay d.other with load := (s.numbersBeside d).1 } := by
      rw [closed]; exact Sides.get_of_other ..
    have trucks : t.trucks = c.trucksFor tag := by rw [ht]
    have identified := c.identified_spec tag (b := c.openedFor tag (c.bay d)) ⟨rfl, rfl, rfl, rfl, rfl⟩
    have notices : noticedBoth s t .logged := by
      obtain ⟨_, counted⟩ := raised_ports (s := s) (u := s) (t := c) (n := .logged) (by decide) rfl (by rw [closed])
      exact ⟨(logged .cab).trans counted.1, (logged .fleet).trans counted.2⟩
    rw [here, beside, trucks, other]
    rw [closed] at identified
    refine ⟨by rw [closed]; rfl, by rw [closed]; rfl, by rw [closed]; rfl, rfl, rfl, by rw [ht, closed]; rfl,
      by rw [closed]; exact identified, by rw [closed]; rfl, ?_, notices, by rw [ht, closed], by rw [ht, closed]⟩
    have log : t.log = s.log.append (.load (closing (s.bay d) d .newTruck s)) := by rw [ht, closed]
    rw [appended, log]
    exact Log.append_spec _ _

/-- The same of a grant's end, from the state in which the truck arrives. -/
theorem GrantEnded.arrival {s u t : State} {d : Side} {tag : Nat} (h : GrantEnded s (u.truckArrives d tag) t)
    (hu : u = { s with ports := u.ports, arb := u.arb }) (hp : ∀ p, (u.port p).pacer = (s.port p).pacer) :
    ArrivalEffect s t d tag ∧ t.arb.items = u.arb.items ∧ t.arb.lastServed = u.arb.lastServed := by
  obtain ⟨asked, pacers⟩ := State.truckArrives_asked hu hp d tag
  refine ⟨State.truckArrives_effect ?_ h.bays fun p => ?_, ?_, ?_⟩
  · conv_lhs => rw [h.frame, asked]
  · rw [h.counts p .logged (by decide), pacers]
  · rw [h.arb, asked]
  · rw [h.arb, asked]

/-! ### The statements -/

/-- Settles O25: the opposite bay that holds the tag makes it a cross-read, and any other tag arrives. -/
theorem tagEventIsCrossReadOrArrival : Obligations.TagEventIsCrossReadOrArrival := by
  intro s e rest ho o
  obtain ⟨u, hu⟩ : ∃ u, u = { s with arb := { s.arb with items := rest } } := ⟨_, rfl⟩
  refine ⟨fun held => ?_, fun differs => ?_⟩
  · have crossRead : u.tagEvent e = _ := State.tagEvent_crossRead (by rw [hu]; exact not_not.2 held)
    have granted := ho.grant (work := tagEventWork) (f := fun v => v.tagEvent e) rfl
    rw [← hu, crossRead, State.settle_same (by rw [hu]) (by rw [hu]) (by rw [hu]), hu] at granted
    exact granted
  · have arrives : u.tagEvent e = u.truckArrives e.side e.tag := State.tagEvent_arrives (by rw [hu]; exact differs)
    have ports : samePorts s (u.truckArrives e.side e.tag) := by
      rw [hu]
      exact State.truckArrives_samePorts _ _ _
    have quiet : quietBays s (u.truckArrives e.side e.tag) := by
      rw [hu]
      exact State.truckArrives_quietBays _ _ _
    rw [← arrives, hu] at ports quiet
    obtain ⟨t, ht, ended, same⟩ := ho.acts (work := tagEventWork) (f := fun v => v.tagEvent e) rfl ports quiet
    rw [← hu, arrives] at ended
    obtain ⟨effect, items, served⟩ := ended.arrival (by rw [hu]) (by rw [hu]; exact fun _ => rfl)
    rw [hu] at items served
    exact ⟨t, ht, effect, items, served, same⟩

/-! ### ASSIGN_TRUCK (R107) -/

theorem sideOf_code (d : Side) : sideOf d.code = some d := by cases d <;> rfl

/-- The checks of ASSIGN_TRUCK, in their order: the bay, the tag, the load number, the bay beside and the tag held. -/
theorem assignTruckWork_spec {payload : List Byte} {d : Side} (hd : natAt payload 0 1 = d.code) (s : State) :
    (natAt payload 1 3 = 0 → assignTruckWork payload s = (s, .range 2)) ∧
    (natAt payload 1 3 ≠ 0 → (s.bay d).load ≠ natAt payload 4 4 →
      assignTruckWork payload s = (s, .staleBay (s.bay d).state)) ∧
    (natAt payload 1 3 ≠ 0 → (s.bay d).load = natAt payload 4 4 → ¬notBeside s d (natAt payload 1 3) →
      assignTruckWork payload s = (s, .refuse .state (0x20 + (s.bay d.other).state.code) [])) ∧
    (natAt payload 1 3 ≠ 0 → (s.bay d).load = natAt payload 4 4 → notBeside s d (natAt payload 1 3) →
      (s.bay d).tag = some (natAt payload 1 3) → assignTruckWork payload s = (s, .ok [])) ∧
    (natAt payload 1 3 ≠ 0 → (s.bay d).load = natAt payload 4 4 → notBeside s d (natAt payload 1 3) →
      (s.bay d).tag ≠ some (natAt payload 1 3) → assignTruckWork payload s =
        (s.truckArrives d (natAt payload 1 3),
          .ok (be 4 ((s.truckArrives d (natAt payload 1 3)).bay d).load ++
            boolByte ((s.truckArrives d (natAt payload 1 3)).bay d).ref.isSome))) := by
  unfold assignTruckWork
  rw [hd, sideOf_code]
  dsimp only
  refine ⟨fun zero => if_pos zero, fun tag load => ?_, fun tag load held => ?_, fun tag load differs same => ?_,
    fun tag load differs other => ?_⟩ <;> rw [if_neg tag]
  · exact if_pos load
  · rw [if_neg (not_not.2 load), if_pos ((heldOpposite_iff s d _).2 (not_not.1 held))]
  · rw [if_neg (not_not.2 load), heldOpposite_eq_false differs]
    exact if_pos same
  · rw [if_neg (not_not.2 load), heldOpposite_eq_false differs]
    exact if_neg other

theorem assignTruckWork_range {payload : List Byte} (h : 2 ≤ natAt payload 0 1) (s : State) :
    assignTruckWork payload s = (s, .range 1) := by
  unfold assignTruckWork
  rw [sideOf_none h]

/-- Settles O35: the work answers the first check that fails, or lets the truck arrive. -/
theorem assignTruckActsAsArrival : Obligations.AssignTruckActsAsArrival := by
  intro s p r rest ho tag expected g
  have quiet : ∀ {status payload}, assignTruckWork r.payload g = (g, ⟨status, payload⟩) →
      exec (.assignTruck p) s = .next (g.answered p r status payload) := fun hw =>
    ho.answers none rfl hw rfl rfl rfl
  refine ⟨fun h => quiet (assignTruckWork_range h g), fun d hd => ?_⟩
  intro b o
  obtain ⟨zero, stale, held, same, arrives⟩ := assignTruckWork_spec hd g
  refine ⟨fun h => quiet (zero h), fun h hl => quiet (stale h hl), fun h hl ho => quiet (held h hl (not_not.2 ho)),
    fun h hl ho ht => quiet (same h hl ho ht), fun h hl differs ht => ?_⟩
  obtain ⟨t, hx, acted⟩ := ho.acts rfl (arrives h hl differs ht) (State.truckArrives_samePorts _ _ _)
    (State.truckArrives_quietBays _ _ _)
  obtain ⟨effect, items, served⟩ := acted.arrival rfl fun q => s.granted_pacer p q rest
  have bay : t.bay d = (g.truckArrives d tag).bay d := by rw [acted.frame]; rfl
  obtain ⟨⟨_, waits, _⟩, _⟩ := ho
  refine ⟨t, hx, effect, served, items.trans waits, acted.queue, ?_, acted.otherQueue, acted.otherAnswers⟩
  rw [acted.answers, bay]
  rfl

end Sys2Proof.Machine
end

section
/-! CLOSE_LOAD and SET_LOAD_TARGET (R97, R114 to R116). -/

namespace Sys2Proof.Machine

/-! ### CLOSE_LOAD (R115) -/

theorem closeLoadWork_range (p : Port) {payload : List Byte} (h : 2 ≤ natAt payload 0 1) (s : State) :
    closeLoadWork p payload s = (s, .range 1) := by
  unfold closeLoadWork
  rw [sideOf_none h]

/-- A load that CLOSE_LOAD does not name, a READY one and a loading one (R115). -/
theorem closeLoadWork_spec (p : Port) {payload : List Byte} {d : Side} (hd : natAt payload 0 1 = d.code) (s : State) :
    ((s.bay d).state = .empty ∨ (s.bay d).load ≠ natAt payload 1 4 →
      closeLoadWork p payload s = (s, .staleBay (s.bay d).state)) ∧
    ((s.bay d).state = .ready → (s.bay d).load = natAt payload 1 4 →
      closeLoadWork p payload s = (s.modifyBay d Bay.cleared, .ok [0])) ∧
    ((s.bay d).state ≠ .empty → (s.bay d).state ≠ .ready → (s.bay d).load = natAt payload 1 4 →
      closeLoadWork p payload s = (s.closeLoad d (.close p), .ok (1 :: be 3 (s.bay d).total))) := by
  unfold closeLoadWork
  rw [hd, sideOf_code]
  dsimp only
  refine ⟨fun stale => ?_, fun ready load => ?_, fun loaded closed load => ?_⟩
  · split <;> [rfl; skip; skip; skip; skip] <;> rename_i held <;>
      exact if_neg (stale.resolve_left (by simp [held]))
  · rw [ready]
    exact if_pos load
  · split <;> [exact absurd ‹_› loaded; exact absurd ‹_› closed; skip; skip; skip] <;> exact if_pos load

/-- A close raises LOGGED, and nothing else of a port changes (R114). -/
theorem State.closeLoad_ports (s : State) (d : Side) (reason : CloseReason) :
    samePorts s (s.closeLoad d reason) ∧ quietBays s (s.closeLoad d reason) ∧
      noticedBoth s (s.closeLoad d reason) .logged := by
  have raised : (s.closeLoad d reason).ports = (s.raise .logged).ports := by rw [State.closeLoad_eq]
  obtain ⟨ports, counted⟩ := raised_ports (n := .logged) (by decide) rfl raised
  exact ⟨ports, .of_raised (n := .logged) (by decide) raised, counted⟩

/-- Settles O36: the work answers STALE, cancels, or closes, and the close is its closed form. -/
theorem closeLoadLogsOrCancels : Obligations.CloseLoadLogsOrCancels := by
  intro s p r rest ho expected g
  have ⟨⟨_, waits, _⟩, _⟩ := ho
  refine ⟨fun h => ho.answers none rfl (closeLoadWork_range p h g) rfl rfl rfl, fun d hd => ?_⟩
  intro b o n emptied
  obtain ⟨stale, cancels, closes⟩ := closeLoadWork_spec p hd g
  refine ⟨fun h => ho.answers none rfl (stale h) rfl rfl rfl, fun ready load => ?_, fun loaded closed load => ?_⟩
  · obtain ⟨t, hx, acted⟩ := ho.acts rfl (cancels ready load) (.of_ports rfl) (.of_ports rfl)
    have frame := acted.frame
    rw [State.modifyBay_eq] at frame
    refine ⟨t, hx, ?_, ?_, ?_, acted.bays, by rw [acted.arb]; rfl, ?_, acted.queue, acted.answers, acted.otherQueue,
      acted.otherAnswers⟩
    · rw [frame]
      rfl
    · rw [frame]
      exact Sides.get_of_same ..
    · rw [frame]
      exact Sides.get_of_other ..
    · rw [acted.arb]
      exact waits
  · obtain ⟨ports, quiet, logged⟩ := g.closeLoad_ports d (.close p)
    obtain ⟨t, hx, acted⟩ := ho.acts rfl (closes loaded closed load) ports quiet
    have noticed : noticedBoth s t .logged := by
      have counted : ∀ q, noticed g (g.closeLoad d (.close p)) q .logged → noticed s t q .logged := by
        intro q hq
        rw [Machine.noticed, acted.counts q .logged (by decide), hq, s.granted_pacer]
      exact ⟨counted .cab logged.1, counted .fleet logged.2⟩
    have arb := acted.arb
    have frame := acted.frame
    rw [State.closeLoad_eq] at frame arb
    refine ⟨t, hx, ?_, ?_, noticed, acted.bays, ?_, ?_, ?_, ?_, ?_, by rw [arb]; rfl, ?_, acted.queue, acted.answers,
      acted.otherQueue, acted.otherAnswers⟩
    · rw [frame]
      rfl
    · have log : t.log = s.log.append (.load (closing b d (.close p) s)) := by
        rw [frame]
        rfl
      rw [appended, log]
      exact Log.append_spec _ _
    · rw [frame]
      rfl
    · rw [frame]
      exact Sides.get_of_same ..
    · rw [frame]
      exact Sides.get_of_other ..
    · rw [frame]
      rfl
    · rw [frame]
      rfl
    · rw [arb]
      exact waits

/-! ### SET_LOAD_TARGET (R116) -/

theorem setLoadTargetWork_range {payload : List Byte} (h : 2 ≤ natAt payload 0 1) (s : State) :
    setLoadTargetWork payload s = (s, .range 1) := by
  unfold setLoadTargetWork
  rw [sideOf_none h]

/-- The checks of SET_LOAD_TARGET, in their order, and its change (R116). -/
theorem setLoadTargetWork_spec {payload : List Byte} {d : Side} (hd : natAt payload 0 1 = d.code) (s : State) :
    let target := natAt payload 5 2
    let max := natAt payload 7 2
    let set := s.modifyBay d fun b => ({ b with target := target, max := max }).restate
    (targetOk target = false → setLoadTargetWork payload s = (s, .range 2)) ∧
    (targetOk target = true → maxOk target max = false → setLoadTargetWork payload s = (s, .range 3)) ∧
    (targetOk target = true → maxOk target max = true →
      (s.bay d).state = .empty ∨ (s.bay d).load ≠ natAt payload 1 4 →
        setLoadTargetWork payload s = (s, .staleBay (s.bay d).state)) ∧
    (targetOk target = true → maxOk target max = true →
      ¬((s.bay d).state = .empty ∨ (s.bay d).load ≠ natAt payload 1 4) →
        setLoadTargetWork payload s = (set, .ok (be 1 (set.bay d).state.code))) := by
  intro target max set
  unfold setLoadTargetWork
  rw [hd, sideOf_code]
  dsimp only
  refine ⟨fun ht => ?_, fun ht hm => ?_, fun ht hm stale => ?_, fun ht hm named => ?_⟩ <;>
    simp only [target] at ht <;> rw [ht]
  · rfl
  · simp only [target, max] at hm
    rw [hm]
    rfl
  · simp only [target, max] at hm
    rw [hm]
    exact if_pos stale
  · simp only [target, max] at hm
    rw [hm]
    exact if_neg named

/-- A figure of one byte (R195). -/
theorem be_one (n : Nat) : be 1 n = [BitVec.ofNat 8 n] := by simp [be]

/-- Settles O37: the work answers the first check that fails, or sets both figures and forms the state anew. -/
theorem setLoadTargetRecomputesState : Obligations.SetLoadTargetRecomputesState := by
  intro s p r rest ho expected target max targetBad maxBad g
  have ⟨⟨_, waits, _⟩, _⟩ := ho
  have quiet : ∀ {status payload}, setLoadTargetWork r.payload g = (g, ⟨status, payload⟩) →
      exec (.setLoadTarget p) s = .next (g.answered p r status payload) := fun hw =>
    ho.answers none rfl hw rfl rfl rfl
  refine ⟨fun h => quiet (setLoadTargetWork_range h g), fun d hd => ?_⟩
  intro b
  obtain ⟨badTarget, badMax, stale, sets⟩ := setLoadTargetWork_spec hd g
  have goodTarget : ¬targetBad → targetOk target = true := fun h => targetOk_iff.2 (by omega)
  have goodMax : ¬maxBad → maxOk target max = true := fun h => maxOk_iff.2 (by omega)
  refine ⟨fun h => quiet (badTarget (Bool.eq_false_iff.2 fun ok => ?_)),
    fun ht h => quiet (badMax (goodTarget ht) (Bool.eq_false_iff.2 fun ok => ?_)),
    fun ht hm h => quiet (stale (goodTarget ht) (goodMax hm) h), fun ht hm loaded named => ?_⟩
  · have := targetOk_iff.1 ok
    omega
  · have := maxOk_iff.1 ok
    omega
  · obtain ⟨t, hx, acted⟩ := ho.acts rfl
      (sets (goodTarget ht) (goodMax hm) (not_or.2 ⟨loaded, not_not.2 named⟩)) (.of_ports rfl) (.of_ports rfl)
    have frame := acted.frame
    have answers := acted.answers
    rw [State.modifyBay_eq] at frame answers
    refine ⟨t, hx, ?_, ?_, ?_, acted.bays, by rw [acted.arb]; rfl, ?_, acted.queue, ?_, acted.otherQueue,
      acted.otherAnswers⟩
    · rw [frame]
      rfl
    · rw [frame]
      exact Sides.get_of_same ..
    · rw [frame]
      exact Sides.get_of_other ..
    · rw [acted.arb]
      exact waits
    · rw [answers, be_one]
      cases d <;> rfl

end Sys2Proof.Machine
end

section
/-! The grant of a residue outcome (R112, R113). -/

namespace Sys2Proof.Machine

/-! ### A residue taken off or declined -/

/-- A residue outcome for a load that has gone (R113). -/
theorem State.applyResidue_declines {s : State} {ref : DumpRef} (h : (s.bay ref.side).load ≠ ref.load) (x : Nat) :
    s.applyResidue x ref =
      ({ s with bays := { s.bays with residueReport := some ⟨x, ref, 0, false⟩ } } : State).raise .residue := if_neg h

/-- A bay from a pass of which a residue has been taken (R112). -/
def State.residueTaken (s : State) (x : Nat) (ref : DumpRef) : Bay :=
  (s.bay ref.side).withPasses ((s.bay ref.side).passes.modify (ref.index - 1) fun p =>
    p.takeOff x (s.fill (s.bay ref.side).material))

/-- A residue outcome for a load that is still in its bay (R112). -/
theorem State.applyResidue_applies {s : State} {ref : DumpRef} (h : (s.bay ref.side).load = ref.load) (x : Nat) :
    s.applyResidue x ref = ({ s with
      bays := { s.bays with
        bay := .of ref.side (s.residueTaken x ref) (s.bay ref.side.other)
        residueReport := some ⟨x, ref, min x (netAt (s.bay ref.side).passes ref.index), true⟩ }
      shift := { s.shift with counters := { s.shift.counters with
        residues := satAdd max16 s.shift.counters.residues 1 } } } : State).raise .residue := by
  unfold State.applyResidue
  dsimp only
  rw [if_pos h, State.modifyBay_eq]
  rfl

/-- The pass at a place of a list changes, and no other. -/
theorem modify_append_cons {α : Type} (front back : List α) (a : α) (f : α → α) {n : Nat} (h : front.length = n) :
    (front ++ a :: back).modify n f = front ++ f a :: back := by
  subst h
  exact List.modifyTailIdx_add (List.modifyHead f) 0 front (a :: back)

/-- The pass that a reference names, at its place of the list (R98, R112). -/
theorem State.residueTaken_passes {s : State} {ref : DumpRef} {old : Pass} {front back : List Pass}
    (passes : (s.bay ref.side).passes = front ++ old :: back) (place : front.length + 1 = ref.index) (x : Nat) :
    (s.residueTaken x ref).passes = front ++ old.takeOff x (s.fill (s.bay ref.side).material) :: back ∧
      netAt (s.bay ref.side).passes ref.index = old.net := by
  have before : front.length = ref.index - 1 := by omega
  refine ⟨?_, ?_⟩
  · change (s.bay ref.side).passes.modify _ _ = _
    rw [passes, modify_append_cons _ _ _ _ before]
  · unfold netAt
    rw [passes, List.getElem?_append_right before.le, before, Nat.sub_self]
    rfl

/-- Both raise RESIDUE, and nothing else changes of the ports. -/
theorem State.applyResidue_ports (s : State) (x : Nat) (ref : DumpRef) :
    (s.applyResidue x ref).ports = (s.raise .residue).ports := by
  by_cases h : (s.bay ref.side).load = ref.load
  · rw [State.applyResidue_applies h]
    rfl
  · rw [State.applyResidue_declines h]
    rfl

/-- What a residue outcome leaves alone. -/
theorem State.applyResidue_frame (s : State) (x : Nat) (ref : DumpRef) :
    let t := s.applyResidue x ref
    t = { s with bays := t.bays, shift := t.shift, ports := t.ports } ∧ t.bay ref.side.other = s.bay ref.side.other ∧
      t.bays.active = s.bays.active ∧ t.bays.nextLoad = s.bays.nextLoad ∧ t.bays.crossReads = s.bays.crossReads := by
  intro t
  by_cases h : (s.bay ref.side).load = ref.load
  · simp only [t, State.applyResidue_applies h]
    exact ⟨rfl, Sides.get_of_other .., rfl, rfl, rfl⟩
  · simp only [t, State.applyResidue_declines h]
    exact ⟨rfl, rfl, rfl, rfl, rfl⟩

/-- Settles O22: the report is replaced in both cases, and the pass named is the one at its place of the list. -/
theorem residueIsAppliedOrDeclined : Obligations.ResidueIsAppliedOrDeclined := by
  intro s x ref rest ho d b c
  obtain ⟨u, hu⟩ : ∃ u, u = { s with arb := { s.arb with items := rest } } := ⟨_, rfl⟩
  have raised : (u.applyResidue x ref).ports = (s.raise .residue).ports := by
    rw [State.applyResidue_ports, hu]
    rfl
  obtain ⟨ports, counted⟩ := raised_ports (n := .residue) (by decide) rfl raised
  have quiet : quietBays s (u.applyResidue x ref) := .of_raised (n := .residue) (by decide) raised
  rw [hu] at ports quiet
  obtain ⟨t, ht, ended, same⟩ := ho.acts (work := residueWork) (f := fun v => v.applyResidue x ref) rfl ports quiet
  rw [← hu] at ended
  obtain ⟨whole, beside, active, nextLoad, crossReads⟩ := u.applyResidue_frame x ref
  have bays : t.bays = (u.applyResidue x ref).bays := by rw [ended.frame]
  have shift : t.shift = (u.applyResidue x ref).shift := by rw [ended.frame]
  have noticed : noticedBoth s t .residue :=
    ⟨(ended.counts .cab _ (by decide)).trans counted.1, (ended.counts .fleet _ (by decide)).trans counted.2⟩
  refine ⟨t, ht, ?_, same, noticed, ended.bays, ?_, ?_, ?_, ?_, ?_, fun gone => ?_, fun old front back load passes place => ?_⟩
  · have frame := ended.frame
    rw [whole, ← bays, ← shift, hu] at frame
    exact frame
  · rw [ended.arb, whole, hu]
  · rw [State.bay_of_bays bays, beside, hu]
    rfl
  · rw [bays, active, hu]
  · rw [bays, nextLoad, hu]
  · rw [bays, crossReads, hu]
  · rw [State.applyResidue_declines (by rw [hu]; exact gone), hu] at bays shift
    exact ⟨bays, shift⟩
  · rw [State.applyResidue_applies (by rw [hu]; exact load), hu] at bays shift
    have taken : t.bay d = s.residueTaken x ref := by
      rw [State.bay_of_bays bays]
      exact Sides.get_of_same ..
    obtain ⟨list, net⟩ := State.residueTaken_passes passes place x
    refine ⟨?_, ?_, ?_, ?_, ?_, shift⟩
    · rw [taken, list]
      rfl
    · rw [taken]
      rfl
    · rw [taken]
      rfl
    · rw [taken]
      rfl
    · rw [bays, ← net]
      rfl

end Sys2Proof.Machine
end

section
/-! WRITE_TRUCK and DROP_TRUCK (R117, R133 to R137). -/

namespace Sys2Proof.Machine

/-! ### The fields of WRITE_TRUCK (R134) -/

/-- The first field of WRITE_TRUCK that is out of range, in the order of R134. -/
def truckFieldFailing (payload : List Byte) : Option Nat :=
  let target := natAt payload 3 2
  let max := natAt payload 5 2
  let way := natAt payload 9 1
  if natAt payload 0 3 = 0 then some 1
  else if target < 1000 ∨ 60000 < target then some 2
  else if max < 1000 ∨ 60000 < max ∨ max < target then some 3
  else if 16 ≤ natAt payload 7 1 then some 4
  else if 2 ≤ natAt payload 8 1 then some 5
  else if 4 ≤ way ∧ way ≠ 0xFF then some 6 else none

theorem targetOk_eq (target : Nat) : (!targetOk target) = decide (target < 1000 ∨ 60000 < target) := by
  rw [Bool.eq_iff_iff, Bool.not_eq_true', ← Bool.not_eq_true, targetOk_iff, decide_eq_true_eq]
  omega

theorem maxOk_eq (target max : Nat) :
    (!maxOk target max) = decide (max < 1000 ∨ 60000 < max ∨ max < target) := by
  rw [Bool.eq_iff_iff, Bool.not_eq_true', ← Bool.not_eq_true, maxOk_iff, decide_eq_true_eq]
  omega

/-- A pin choice is 0 or 1 (R194). -/
theorem pinOf_eq (n : Nat) : pinOf n = if 2 ≤ n then none else some (decide (n = 1)) := by
  unfold pinOf
  split
  · rfl
  · rfl
  · rename_i zero one
    rw [if_pos (Nat.two_le_iff n |>.2 ⟨zero, one⟩)]

/-- The way that a byte below 4 gives. -/
def wayGiven (n : Nat) : Option (Fin 4) := if h : n < 4 then some ⟨n, h⟩ else none

/-- A way is 0 to 3, or 0xFF (R194). -/
theorem wayOf_eq (n : Nat) : wayOf n = if 4 ≤ n ∧ n ≠ 0xFF then none else some (wayGiven n) := by
  unfold wayOf wayGiven
  by_cases given : n < 4
  · rw [dif_pos given, dif_pos given, if_neg (by omega)]
  · rw [dif_neg given, dif_neg given]
    by_cases absent : n = 0xFF
    · rw [if_pos absent, if_neg fun h => h.2 absent]
    · rw [if_neg absent, if_pos ⟨by omega, absent⟩]

/-- The work of WRITE_TRUCK answers the first field that fails, or writes the truck. -/
theorem writeTruckWork_eq (payload : List Byte) (s : State) : writeTruckWork payload s =
    match truckFieldFailing payload with
    | some n => (s, .range n)
    | none => s.writeTruck (natAt payload 0 3) (natAt payload 3 2) (natAt payload 5 2)
        (Fin.ofNat 16 (natAt payload 7 1)) (decide (natAt payload 8 1 = 1)) (wayGiven (natAt payload 9 1)) := by
  unfold writeTruckWork truckFieldFailing
  simp only [targetOk_eq, maxOk_eq, decide_eq_true_eq, pinOf_eq, wayOf_eq]
  split
  · rfl
  split
  · rfl
  split
  · rfl
  by_cases material : 16 ≤ natAt payload 7 1
  · rw [dif_neg (by omega), if_pos material]
  have value : (⟨natAt payload 7 1, by omega⟩ : Fin 16) = Fin.ofNat 16 (natAt payload 7 1) :=
    Fin.ext (Nat.mod_eq_of_lt (by omega)).symm
  rw [dif_pos (by omega), if_neg material, value]
  by_cases pin : 2 ≤ natAt payload 8 1
  · rw [if_pos pin, if_pos pin]
  rw [if_neg pin, if_neg pin]
  by_cases way : 4 ≤ natAt payload 9 1 ∧ natAt payload 9 1 ≠ 0xFF
  · rw [if_pos way, if_pos way]
  · rw [if_neg way, if_neg way]

/-! ### The write of a truck (R135, R136) -/

theorem State.lookup_found {s : State} {tag : Nat} {w : Fin 4} (h : s.trucks[setOf tag].find tag = some w) :
    s.lookup tag = some ⟨setOf tag, w⟩ := congrArg (Option.map _) h

theorem State.lookup_missing {s : State} {tag : Nat} (h : s.trucks[setOf tag].find tag = none) :
    s.lookup tag = none := congrArg (Option.map _) h

/-- A listed tag's entry takes the figures in place (R135). -/
theorem State.writeTruck_updates {s : State} {tag : Nat} {w : Fin 4} (h : s.trucks[setOf tag].find tag = some w)
    (target max : Nat) (m : Fin 16) (pinned : Bool) (way : Option (Fin 4)) :
    s.writeTruck tag target max m pinned way =
      ({ s with trucks := s.trucks.set (setOf tag) ((s.trucks[setOf tag].put w
          { s.trucks[setOf tag].ways[w] with target := target, max := max, material := m, pinned := pinned }).touch w) },
        .ok (TruckRef.bytes ⟨setOf tag, w⟩ ++ [0])) := by
  unfold State.writeTruck
  rw [State.lookup_found h]
  rfl

/-- A tag that is not listed, and no way for it (R136). -/
theorem State.writeTruck_full {s : State} {tag : Nat} {way : Option (Fin 4)}
    (h : s.trucks[setOf tag].find tag = none) (hw : way.or s.trucks[setOf tag].victim = none)
    (target max : Nat) (m : Fin 16) (pinned : Bool) :
    s.writeTruck tag target max m pinned way = (s, .refuse .full (setOf tag).val []) := by
  unfold State.writeTruck
  rw [State.lookup_missing h, hw]

/-- A tag that is not listed takes a way, and displaces what the way held (R133, R136). -/
theorem State.writeTruck_places {s : State} {tag : Nat} {way : Option (Fin 4)} {w : Fin 4}
    (h : s.trucks[setOf tag].find tag = none) (hw : way.or s.trucks[setOf tag].victim = some w)
    (target max : Nat) (m : Fin 16) (pinned : Bool) :
    s.writeTruck tag target max m pinned way =
      (s.place ⟨setOf tag, w⟩ (writtenEntry tag target max m pinned),
        .ok (TruckRef.bytes ⟨setOf tag, w⟩ ++ 1 :: if (s.trucks[setOf tag].ways[w]).valid then
          1 :: be 3 (s.trucks[setOf tag].ways[w]).tag else [0])) := by
  unfold State.writeTruck
  rw [State.lookup_missing h, hw]
  dsimp only [State.entry]
  cases (s.trucks[setOf tag].ways[w]).valid <;> rfl

/-- A bay loses its reference to a valid entry that is displaced, and is as it was otherwise (R133). -/
theorem State.lostRef_eq (s : State) (ref : TruckRef) (b : Bay) : s.lostRef ref b =
    if (s.entry ref).valid = true ∧ b.ref = some ref then { b with ref := none } else b := by
  unfold State.lostRef
  split <;> rfl

/-- The way given, or else the victim (R136). -/
theorem wayGiven_or (n : Nat) (victim : Option (Fin 4)) :
    (wayGiven n).or victim = if h : n < 4 then some ⟨n, h⟩ else victim := by
  unfold wayGiven
  split <;> rfl

/-! ### DROP_TRUCK (R137) -/

/-- The checks of DROP_TRUCK, and its change. -/
theorem dropTruckWork_spec {payload : List Byte} {tag : Nat} (ht : tag = natAt payload 0 3) (s : State) :
    (tag = 0 → dropTruckWork payload s = (s, .range 1)) ∧
    (tag ≠ 0 → s.trucks[setOf tag].find tag = none → dropTruckWork payload s = (s, .ok [0])) ∧
    (∀ w, tag ≠ 0 → s.trucks[setOf tag].find tag = some w → dropTruckWork payload s =
      ((s.loseRef ⟨setOf tag, w⟩).modifySet (setOf tag) fun t => t.put w { t.ways[w] with valid := false },
        .ok (1 :: TruckRef.bytes ⟨setOf tag, w⟩))) := by
  unfold dropTruckWork
  rw [← ht]
  refine ⟨fun zero => if_pos zero, fun tagged missing => ?_, fun w tagged found => ?_⟩ <;> dsimp only <;>
    rw [if_neg tagged]
  · rw [State.lookup_missing missing]
  · rw [State.lookup_found found]

/-! ### The statement -/

/-- Settles O40: the work answers the first field that fails, updates in place, answers FULL or takes a way; and it
drops the entry that holds the tag. -/
theorem truckRequestsWriteAndDrop : Obligations.TruckRequestsWriteAndDrop := by
  constructor
  · intro s r rest ho tag target max material pin way set failing g chosen
    have ranged (n : Nat) (h : failing = some n) : writeTruckWork r.payload g = (g, .range n) := by
      rw [writeTruckWork_eq, show truckFieldFailing r.payload = some n from h]
    have writes (h : failing = none) : writeTruckWork r.payload g =
        g.writeTruck tag target max (Fin.ofNat 16 material) (decide (pin = 1)) (wayGiven way) := by
      rw [writeTruckWork_eq, show truckFieldFailing r.payload = none from h]
    have named (m : Fin 16) (hm : m.val = material) : Fin.ofNat 16 material = m := hm ▸ Fin.ofNat_val_eq_self m
    have chooses : (wayGiven way).or g.trucks[setOf tag].victim = chosen := wayGiven_or _ _
    refine ⟨fun n h => ho.answers none rfl (ranged n h) rfl rfl rfl, fun w m h hm found => ?_,
      fun h missing full => ?_, fun w m h hm missing taken => ?_⟩
    · have worked := (named m hm ▸ writes h).trans (State.writeTruck_updates (s := g) found ..)
      exact ho.answers none rfl worked rfl rfl rfl
    · have worked := (writes h).trans (State.writeTruck_full (s := g) missing (chooses.trans full) ..)
      exact ho.answers none rfl worked rfl rfl rfl
    · have worked := (named m hm ▸ writes h).trans (State.writeTruck_places (s := g) missing (chooses.trans taken) ..)
      rw [State.place_eq] at worked
      obtain ⟨t, hx, acted⟩ := ho.acts rfl worked (.of_ports rfl) (.of_ports rfl)
      have ⟨⟨_, waits, _⟩, _⟩ := ho
      have frame := acted.frame
      simp only [State.lostRef_eq] at frame
      refine ⟨t, hx, ?_, ?_, by rw [acted.arb]; rfl, ?_, acted.queue, acted.answers⟩
      · rw [frame]
        rfl
      · rw [frame]
        rfl
      · rw [acted.arb]
        exact waits
  · intro s r rest ho tag set g
    obtain ⟨zero, misses, drops⟩ := dropTruckWork_spec (tag := tag) rfl g
    refine ⟨fun h => ho.answers none rfl (zero h) rfl rfl rfl,
      fun h missing => ho.answers none rfl (misses h missing) rfl rfl rfl, fun w h found => ?_⟩
    obtain ⟨t, hx, acted⟩ := ho.acts rfl (drops w h found) (.of_ports rfl) (.of_ports rfl)
    have ⟨⟨_, waits, _⟩, _⟩ := ho
    have frame := acted.frame
    refine ⟨t, hx, ?_, ?_, by rw [acted.arb]; rfl, ?_, acted.queue, acted.answers⟩
    · rw [frame]
      rfl
    · rw [frame]
      rfl
    · rw [acted.arb]
      exact waits

end Sys2Proof.Machine
end

section
/-! RESTORE_SNAPSHOT (R188 to R191). -/

namespace Sys2Proof.Machine

/-! ### A checked record's bay, as it is taken (R190) -/

theorem Side.code_of_sideOf {n : Nat} {d : Side} (h : sideOf n = some d) : d.code = n := by
  unfold sideOf at h
  split at h <;> cases h <;> rfl

theorem BayState.code_of_bayStateOf {n : Nat} {st : BayState} (h : bayStateOf n = some st) : st.code = n := by
  unfold bayStateOf at h
  split at h <;> cases h <;> rfl

/-- The state byte of a checked bay names the state that the bay takes (V5 of R189). -/
theorem RawBay.checked.names {b : RawBay} (h : b.checked) (lookup : Nat → Option TruckRef) :
    bayStateOf b.state = some (b.toBay lookup).state := by
  have passes := h.passes
  simp only [RawBay.passesOk, Bool.and_eq_true, beq_iff_eq] at passes
  obtain ⟨_, state⟩ := passes
  rw [RawBay.toBay, state, Option.getD_some]

/-- The active bay of a checked record (V9 of R189). -/
theorem RawSnapshot.code_active {r : RawSnapshot} (h : r.restOk = true) :
    ((sideOf r.active).getD .left).code = r.active := by
  simp only [RawSnapshot.restOk, Bool.and_eq_true] at h
  obtain ⟨⟨_, named⟩, _⟩ := h
  obtain ⟨d, side⟩ := Option.isSome_iff_exists.1 named
  rw [side]
  exact Side.code_of_sideOf side

/-- What a bay takes of a checked record: the record's figures, and the reference that its tag looks up unless it is
EMPTY (R190, R191). -/
theorem RawBay.checked.toBay_spec {y : RawBay} (h : y.checked) (lookup : Nat → Option TruckRef) :
    (y.toBay lookup).state.code = y.state ∧ (y.toBay lookup).load = y.load ∧ (y.toBay lookup).tag = y.tag ∧
    (y.toBay lookup).material.val = y.material ∧ (y.toBay lookup).target = y.target ∧
    (y.toBay lookup).max = y.max ∧ (y.toBay lookup).opened = BitVec.ofNat 32 y.opened ∧
    (y.toBay lookup).total = y.total ∧ (y.toBay lookup).passes = y.passes.map RawPass.toPass ∧
    (y.toBay lookup).ref =
      if (y.toBay lookup).state = .empty then none else (y.toBay lookup).tag.bind lookup := by
  have named := h.names lookup
  have figures := h.figures
  simp only [RawBay.figuresOk, Bool.and_eq_true, decide_eq_true_eq] at figures
  obtain ⟨_, material⟩ := figures
  have empty : (y.toBay lookup).state = .empty ↔ y.state = 0 := by
    rw [← bayStateOf_eq_empty, named, Option.some_inj]
  refine ⟨BayState.code_of_bayStateOf named, rfl, rfl, Nat.mod_eq_of_lt material, rfl, rfl, rfl, rfl, rfl, ?_⟩
  simp only [empty]
  rfl

/-! ### The statement -/

/-- The checks of RESTORE_SNAPSHOT, in their order, and its change (R188, R190). -/
theorem restoreSnapshotWork_spec (payload : List Byte) (s : State) :
    (s.arb.fresh = false → restoreSnapshotWork payload s = (s, .refuse .state 0x40 [])) ∧
    (∀ n, s.arb.fresh = true → checkSnapshot payload = .error n →
      restoreSnapshotWork payload s = (s, .refuse .invalid n [])) ∧
    (∀ x, s.arb.fresh = true → checkSnapshot payload = .ok x → restoreSnapshotWork payload s =
      (s.restore x, .ok (be 4 (s.restore x).clock.toNat ++ boolByte ((s.restore x).bay .left).ref.isSome ++
        boolByte ((s.restore x).bay .right).ref.isSome))) := by
  unfold restoreSnapshotWork
  refine ⟨fun used => ?_, fun n fresh fails => ?_, fun x fresh passes => ?_⟩
  · rw [used]
    rfl
  · rw [fresh, fails]
    rfl
  · rw [fresh, passes]
    rfl

/-- Settles O39: the work answers STATE or INVALID, or takes the record, whose checks say what its bytes name. -/
theorem restoreTakesCheckedRecord : Obligations.RestoreTakesCheckedRecord := by
  intro s p r rest ho g
  obtain ⟨used, fails, takes⟩ := restoreSnapshotWork_spec r.payload g
  have ⟨⟨_, waits, _⟩, _⟩ := ho
  refine ⟨fun h => ho.answers none rfl (used h) rfl rfl rfl,
    fun n fresh h => ho.answers none rfl (fails n fresh h) rfl rfl rfl, fun x fresh h => ?_⟩
  obtain ⟨left, right, _, rests⟩ := RawSnapshot.checked_of_failing (checkSnapshot_ok h).2
  obtain ⟨t, hx, acted⟩ := ho.acts rfl (takes x fresh h) (.of_ports rfl) (.of_ports rfl)
  have frame := acted.frame
  have clock : t.clock = (g.restore x).clock := by rw [frame]
  have bays : t.bays = (g.restore x).bays := by rw [frame]
  have bay (d : Side) : t.bay d = (g.restore x).bay d := by
    unfold State.bay
    rw [bays]
  refine ⟨t, hx, by rw [frame]; rfl, acted.bays, ?_, by rw [frame]; rfl, by rw [clock]; rfl, by rw [frame]; rfl,
    by rw [bays]; rfl, ?_, fun d => ?_, acted.queue, ?_, acted.otherQueue, acted.otherAnswers⟩
  · rw [acted.arb, ← waits]
    rfl
  · rw [bays]
    exact RawSnapshot.code_active rests
  · rw [bay]
    cases d
    · exact left.toBay_spec s.lookup
    · exact right.toBay_spec s.lookup
  · rw [acted.answers, clock, bay, bay]
    rfl

end Sys2Proof.Machine
end

section
/-! The replacement bits and the victim of a set (R127 to R129). -/

namespace Sys2Proof.Machine

/-- The ways before a way in the order in which a set is searched are the lower ones. -/
theorem allWays_split (w : Fin 4) :
    allWays = allWays.take w ++ w :: allWays.drop (w + 1) ∧ ∀ v ∈ allWays.take w, v < w := by
  revert w
  decide

/-- A search of a set's ways finds the lowest that satisfies the condition. -/
theorem find?_allWays_lowest {p : Fin 4 → Bool} {w : Fin 4} (hw : p w = true) (below : ∀ v < w, p v = false) :
    allWays.find? p = some w := by
  obtain ⟨split, lower⟩ := allWays_split w
  refine List.find?_eq_some_iff_append.2 ⟨hw, _, _, split, fun v hv => ?_⟩
  rw [below v (lower v hv)]
  rfl

/-- A set with an invalid way gives up the lowest of them (R129, step 1). -/
theorem TruckSet.victim_invalid {t : TruckSet} {w : Fin 4} (hw : t.ways[w].valid = false)
    (below : ∀ v < w, t.ways[v].valid = true) : t.victim = some w := by
  have found : allWays.find? (fun w => !t.ways[w].valid) = some w :=
    find?_allWays_lowest (by rw [hw]; rfl) fun v hv => by rw [below v hv]; rfl
  rw [TruckSet.victim, found]

/-- A set whose ways are all valid gives up the first unpinned way in the order of its bits (R129, step 2). -/
theorem TruckSet.victim_full {t : TruckSet} (h : ∀ w : Fin 4, t.ways[w].valid = true) :
    t.victim = t.order.find? fun w => !t.ways[w].pinned := by
  have full : allWays.find? (fun w => !t.ways[w].valid) = none :=
    List.find?_eq_none.2 fun w _ => by rw [h w]; decide
  rw [TruckSet.victim, full]

theorem pairMate_first (second : Bool) : pairMate (if second then 1 else 0) = if second then 0 else 1 := by
  cases second <;> rfl

theorem pairMate_second (second : Bool) : pairMate (if second then 3 else 2) = if second then 2 else 3 := by
  cases second <;> rfl

/-- The pair that the root names is examined first, and in each pair the way that its bit names (R127, R129). -/
theorem TruckSet.order_eq (t : TruckSet) :
    let first : List (Fin 4) := [if t.pairA then 1 else 0, if t.pairA then 0 else 1]
    let second : List (Fin 4) := [if t.pairB then 3 else 2, if t.pairB then 2 else 3]
    t.order = if t.root then second ++ first else first ++ second := by
  intro first second
  have chooses (b : Bool) : [t.pairChoice b, pairMate (t.pairChoice b)] = if b then second else first := by
    cases b
    · exact congrArg ([_, ·]) (pairMate_first t.pairA)
    · exact congrArg ([_, ·]) (pairMate_second t.pairB)
  change [t.pairChoice t.root, pairMate (t.pairChoice t.root)] ++
    [t.pairChoice (!t.root), pairMate (t.pairChoice (!t.root))] = _
  rw [chooses, chooses]
  cases t.root <;> rfl

/-- Settles O41: a touch by the way touched, and the victim by whether an invalid way is left. -/
theorem replacementFollowsTree : Obligations.ReplacementFollowsTree := by
  refine ⟨fun t => ⟨rfl, rfl, rfl, rfl⟩, fun t w hw below => TruckSet.victim_invalid hw below, fun t full => ?_⟩
  intro a a' b b'
  rw [TruckSet.victim_full full, TruckSet.order_eq]
  rfl

end Sys2Proof.Machine
end

section
/-! WRITE_MATERIAL (R142), and the grant of a request whose class is not allowed (R176, R178). -/

namespace Sys2Proof.Machine

/-- A granted request whose class is not allowed changes nothing and is answered DENIED, whatever its work. -/
theorem OffersRequest.denied {s : State} {p : Port} {r : Request} {rest : List Request} {k : ReqKind} {detail : Nat}
    (h : OffersRequest s p r rest) (hk : r.kind = k) (calen : Option Bool)
    (work : List Byte → State → State × Reply)
    (hd : denial k p ((s.granted p rest).readCalen calen).pins.calen = some detail) :
    grantRequest k p calen work s =
      .next (((s.granted p rest).readCalen calen).answered p r .denied [BitVec.ofNat 8 detail]) := by
  have refused : ((s.granted p rest).readCalen calen).carryOut k p r.payload work =
      ((s.granted p rest).readCalen calen, .refuse .denied detail []) := by
    rw [State.carryOut, hd]
  have settled : s.settle ((s.granted p rest).readCalen calen) = (s.granted p rest).readCalen calen := by
    refine State.settle_same ?_ ?_ ?_ <;> cases calen <;> rfl
  rw [h.grant hk, refused, settled]
  rfl

theorem densityOk_eq_false_iff {n : Nat} : densityOk n = false ↔ n ≠ 0 ∧ (n < 500 ∨ 3500 < n) := by
  rw [← Bool.not_eq_true, densityOk_iff]
  omega

theorem labelChar_eq_false_iff {b : Byte} : labelChar b = false ↔ b.toNat < 0x20 ∨ 0x7E < b.toNat := by
  rw [← Bool.not_eq_true, labelChar, Bool.and_eq_true, decide_eq_true_eq, decide_eq_true_eq]
  omega

/-- A label fails when one of its characters is outside space to tilde (R141). -/
theorem all_labelChar_eq_false_iff {label : List Byte} :
    label.all labelChar = false ↔ ∃ x ∈ label, x.toNat < 0x20 ∨ 0x7E < x.toNat := by
  simp only [List.all_eq_false, Bool.not_eq_true, labelChar_eq_false_iff]

/-- The entry would leave the default material without a density, and so new loads without a fill (R142). -/
abbrev starvesDefault (s : State) (code density : Nat) : Prop := density = 0 ∧ s.cal.profile.defMaterial.val = code

/-- The checks of WRITE_MATERIAL, in their order, and its change (R142). -/
theorem writeMaterialWork_spec {payload : List Byte} {code density : Nat} {label : List Byte}
    (hc : code = natAt payload 0 1) (hd : density = natAt payload 1 2) (hl : label = slice payload 3 8) (s : State) :
    (16 ≤ code → writeMaterialWork payload s = (s, .range 1)) ∧
    (code < 16 → densityOk density = false → writeMaterialWork payload s = (s, .range 2)) ∧
    (code < 16 → densityOk density = true → label.all labelChar = false →
      writeMaterialWork payload s = (s, .range 3)) ∧
    (code < 16 → densityOk density = true → label.all labelChar = true → starvesDefault s code density →
      writeMaterialWork payload s = (s, .range 2)) ∧
    (∀ h : code < 16, densityOk density = true → label.all labelChar = true → ¬starvesDefault s code density →
      writeMaterialWork payload s = ({ s with materials := s.materials.set code ⟨density, label⟩ h }, .ok [])) := by
  subst hc hd hl
  unfold writeMaterialWork
  refine ⟨fun high => dif_neg (Nat.not_lt.2 high), fun low dense => ?_, fun low dense chars => ?_,
    fun low dense chars starves => ?_, fun low dense chars feeds => ?_⟩ <;> dsimp only <;> rw [dif_pos low, dense]
  · rfl
  · rw [chars]
    rfl
  · rw [chars]
    exact if_pos starves
  · rw [chars]
    exact if_neg feeds

/-- Settles O42: on the Fleet port the work answers the first check that fails, or writes the entry; on the Cab port
its class is not allowed. -/
theorem writeMaterialKeepsDefaultDense : Obligations.WriteMaterialKeepsDefaultDense := by
  constructor
  · intro s r rest ho code density label densityBad labelBad starves g
    obtain ⟨codeFails, densityFails, labelFails, defaultFails, writes⟩ :=
      writeMaterialWork_spec (payload := r.payload) (code := code) (density := density) (label := label) rfl rfl rfl g
    have dense (h : ¬densityBad) : densityOk density = true :=
      Bool.of_not_eq_false (mt densityOk_eq_false_iff.1 h)
    have chars (h : ¬labelBad) : label.all labelChar = true :=
      Bool.of_not_eq_false (mt all_labelChar_eq_false_iff.1 h)
    have starving : starves ↔ starvesDefault g code density := and_congr_right fun _ => eq_comm
    refine ⟨fun high => ho.answers none rfl (codeFails high) rfl rfl rfl, fun low bad => ?_, fun low hd bad => ?_,
      fun low hd hl empty => ?_, fun low hd hl feeds => ?_⟩
    · exact ho.answers none rfl (densityFails low (densityOk_eq_false_iff.2 bad)) rfl rfl rfl
    · exact ho.answers none rfl (labelFails low (dense hd) (all_labelChar_eq_false_iff.2 bad)) rfl rfl rfl
    · exact ho.answers none rfl (defaultFails low (dense hd) (chars hl) (starving.1 empty)) rfl rfl rfl
    · exact ho.answers none rfl (writes low (dense hd) (chars hl) (mt starving.2 feeds)) rfl rfl rfl
  · rintro s r rest ⟨turn, kind, _⟩
    exact turn.denied kind none writeMaterialWork rfl

end Sys2Proof.Machine
end

section
/-! SUPPORT. What a command can do to the production log and the shift counters (chapter 7), said once: it leaves them,
or makes one of eleven changes. -/

namespace Sys2Proof.Machine

/-! ### The changes -/

/-- What a command can leave of a log `l` and a shift block `x`. -/
inductive LedgerChange (c : Instr) (l : Log) (x : Shift) : Log → Shift → Prop
  | leaves : LedgerChange c l x l x
  | closes (r : LoadRecord) (total : Nat) :
      LedgerChange c l x (l.append (.load r)) { x with counters := closedCounters x.counters total }
  | truckDump (w : WindowResult) (time : Nat) :
      LedgerChange c l x l { x with counters := x.counters.truckDump w time }
  | pileDump (time : Nat) : LedgerChange c l x l { x with counters := x.counters.pileDump time }
  | reweigh : LedgerChange c l x l
      { x with counters := { x.counters with reweighs := satAdd max16 x.counters.reweighs 1 } }
  | lostCycle : LedgerChange c l x l
      { x with counters := { x.counters with lostCycles := satAdd max16 x.counters.lostCycles 1 } }
  | residue : LedgerChange c l x l
      { x with counters := { x.counters with residues := satAdd max16 x.counters.residues 1 } }
  | measures (v : Nat) : LedgerChange c l x l { x with minVsys := min x.minVsys v }
  | reads (p : Port) : LedgerChange c l x (l.afterRead p) x
  | endsShift (p : Port) (named : c = .endShift p) (r : ShiftRecord) (start : Clock) (minVsys : Nat) :
      LedgerChange c l x (l.append (.shift r)) ⟨nextShift x.number, start, minVsys, Counters.zero⟩
  | restores (payload : List Byte) (r : RawSnapshot) (checked : checkSnapshot payload = .ok r) :
      LedgerChange c l x l ⟨r.number, BitVec.ofNat 32 r.start, r.minVsys, r.counters⟩
  | resets (number : Nat) (start : Clock) (kept : number = 1 ∨ number = x.number) :
      LedgerChange c l x Log.afterReset (Shift.afterReset number start)

/-- What a command, or the work of its grant, has done to the log and the shift block. -/
abbrev ledgerMoved (c : Instr) (s t : State) : Prop := LedgerChange c s.log s.shift t.log t.shift

theorem ledgerMoved.of_same {c : Instr} {s t : State} (log : t.log = s.log) (shift : t.shift = s.shift) :
    ledgerMoved c s t := by
  rw [ledgerMoved, log, shift]
  exact .leaves

/-! ### The works of items -/

/-- A truck that arrives leaves them, or closes a load (R105, R106, R114). -/
theorem State.truckArrives_ledger (c : Instr) (s : State) (d : Side) (tag : Nat) :
    ledgerMoved c s (s.truckArrives d tag) := by
  rcases s.truckArrives_cases d tag with ⟨_, h⟩ | h | ⟨_, h⟩ | ⟨_, _, h⟩ <;> rw [h]
  · rw [State.openFor_eq]
    exact .leaves
  · exact .leaves
  · rw [State.readdress_eq]
    exact .leaves
  · rw [State.openFor_eq, State.closeLoad_eq]
    exact .closes _ _

theorem State.tagEvent_ledger (c : Instr) (s : State) (e : TagEvent) : ledgerMoved c s (s.tagEvent e) := by
  by_cases differs : notBeside s e.side e.tag
  · rw [State.tagEvent_arrives differs]
    exact s.truckArrives_ledger c _ _
  · rw [State.tagEvent_crossRead differs]
    exact .leaves

theorem State.truckDump_ledger (c : Instr) (s : State) (w : WindowResult) (time : Nat) (choice : BayChoice)
    (dump : Nat) : ledgerMoved c s (s.truckDump w time choice dump) := by
  have opened := s.ensureLoad_changes (s.resolve choice)
  have openedLog : (s.ensureLoad (s.resolve choice)).log = s.log := opened.kept (b := .log) (by simp)
  have openedShift : (s.ensureLoad (s.resolve choice)).shift = s.shift := opened.kept (b := .shift) (by simp)
  have log : (s.truckDump w time choice dump).log = s.log := by
    simpa [State.truckDump, State.commit] using openedLog
  have shift : (s.truckDump w time choice dump).shift =
      { s.shift with counters := s.shift.counters.truckDump w time } := by
    rw [← openedShift]
    simp [State.truckDump, State.commit]
  rw [ledgerMoved, log, shift]
  exact .truckDump w time

theorem State.applyResidue_ledger (c : Instr) (s : State) (r : Nat) (ref : DumpRef) :
    ledgerMoved c s (s.applyResidue r ref) := by
  by_cases load : (s.bay ref.side).load = ref.load
  · rw [State.applyResidue_applies load]
    exact .residue
  · rw [State.applyResidue_declines load]
    exact .leaves

/-! ### The works of requests -/

theorem assignTruckWork_ledger (c : Instr) (payload : List Byte) (s : State) :
    ledgerMoved c s (assignTruckWork payload s).1 := by
  unfold assignTruckWork
  dsimp only
  split
  · exact .leaves
  · (repeat' split) <;> [exact .leaves; exact .leaves; exact .leaves; exact .leaves; exact s.truckArrives_ledger c _ _]

theorem closeLoadWork_ledger (c : Instr) (p : Port) (payload : List Byte) (s : State) :
    ledgerMoved c s (closeLoadWork p payload s).1 := by
  have closed : ∀ d, ledgerMoved c s (s.closeLoad d (.close p)) := by
    intro d
    rw [State.closeLoad_eq]
    exact .closes _ _
  unfold closeLoadWork
  dsimp only
  split
  · exact .leaves
  · split
    · exact .leaves
    · split <;> exact .leaves
    all_goals split <;> [exact closed _; exact .leaves]

/-- The five steps of R156 on the blocks that they change. -/
theorem State.endShift_eq (s : State) (p : Port) : s.endShift p = { s with
    log := s.log.append (.shift (s.shiftRecord p))
    shift := ⟨nextShift s.shift.number, s.clock, s.supply.lastVsys, Counters.zero⟩
    ports := (s.raise .shift).ports } := rfl

theorem endShiftWork_ledger (p : Port) (payload : List Byte) (s : State) :
    ledgerMoved (.endShift p) s (endShiftWork p payload s).1 := by
  unfold endShiftWork
  split
  · rw [State.endShift_eq]
    exact .endsShift p rfl _ _ _
  · exact .leaves

theorem restoreSnapshotWork_ledger (c : Instr) (payload : List Byte) (s : State) :
    ledgerMoved c s (restoreSnapshotWork payload s).1 := by
  unfold restoreSnapshotWork
  split
  · split
    · exact .leaves
    · exact .restores payload _ ‹_›
  · exact .leaves

/-! ### The commands -/

theorem grantRequest_ledger {c : Instr} {k : ReqKind} {p : Port} {calen : Option Bool}
    {work : List Byte → State → State × Reply} (hw : ∀ payload u, ledgerMoved c u (work payload u).1) (s : State) :
    ∃ t, grantRequest k p calen work s = .next t ∧ ledgerMoved c s t := by
  refine grantRequest_keeps .leaves (fun _ _ _ _ => ?_) fun r _ _ _ _ _ => ?_
  · exact .of_same (by simp) (by simp)
  · simpa [ledgerMoved] using hw r.payload ((s.dropRequest p).readCalen calen)

theorem grantItem_ledger {c : Instr} {work : Item → Option (State → State)}
    (hw : ∀ i f, work i = some f → ∀ u, ledgerMoved c u (f u)) (s : State) :
    ∃ t, grantItem work s = .next t ∧ ledgerMoved c s t := by
  refine grantItem_keeps .leaves fun i f _ _ hf => ?_
  simpa [ledgerMoved] using hw i f hf s.dropItem

/-- A reset empties the log and the counters, and a pin reset keeps the shift number (R144, R160). -/
theorem exec_reset_ledger {c : Instr} (hr : c.resets = true) (s : State) :
    ∃ t, exec c s = .next t ∧ ledgerMoved c s t := by
  have leaves : ∀ t : State, t.log = s.log → t.shift = s.shift →
      ∃ u, Host.Outcome.next (φ := Fault) (ρ := Refusal) t = .next u ∧ ledgerMoved c s u :=
    fun t log shift => ⟨t, rfl, .of_same log shift⟩
  cases c <;> simp only [Instr.resets, Bool.false_eq_true] at hr
  case powerOnReset => exact ⟨_, rfl, .resets 1 0 (.inl rfl)⟩
  case powerCollapse => exact ⟨_, rfl, .resets 1 0 (.inl rfl)⟩
  case pinReset =>
    simp only [exec, execPinReset]
    split <;> exact leaves _ rfl rfl
  case pinResetRelease =>
    simp only [exec, execPinResetRelease]
    split
    · exact ⟨_, rfl, .resets s.shift.number s.clock (.inr rfl)⟩
    · exact ⟨_, rfl, .resets 1 0 (.inl rfl)⟩
    · exact leaves _ rfl rfl
    · exact leaves _ rfl rfl

theorem execSupplyMeasurement_ledger (c : Instr) (v : Nat) (s : State) :
    ∃ t, execSupplyMeasurement v s = .next t ∧ ledgerMoved c s t := by
  unfold execSupplyMeasurement
  split
  · have others := State.supplyChanged_changes (s.measured (min v 400)) s.supply.state
    have log : Block.log.kept _ _ := others.kept (by simp)
    have shift : Block.shift.kept _ _ := others.kept (by simp)
    refine ⟨_, rfl, ?_⟩
    rw [ledgerMoved, log, shift]
    exact .measures _
  · exact ⟨s, rfl, .leaves⟩

/-- What a command does to the log and the shift block. -/
theorem exec_ledger (c : Instr) (s : State) : ∃ t, exec c s = .next t ∧ ledgerMoved c s t := by
  by_cases hr : c.resets = true
  · exact exec_reset_ledger hr s
  rw [Bool.not_eq_true] at hr
  by_cases hw : c.writesLog = false ∧ c.writesShift = false
  · obtain ⟨log, shift⟩ := hw
    obtain ⟨t, ht, others⟩ := exec_leavesOthers hr s
    exact ⟨t, ht, .of_same (others .log log) (others .shift shift)⟩
  cases c <;> simp only [Instr.writesLog, Instr.writesShift, Instr.bringsTruck, Bool.false_or, Bool.or_self,
    Bool.true_or, Bool.true_eq_false, and_self, and_false, false_and, not_true_eq_false] at hw
  case nextRecord p => exact grantRequest_ledger (fun _ _ => .reads p) s
  case assignTruck p => exact grantRequest_ledger (assignTruckWork_ledger _) s
  case closeLoad p => exact grantRequest_ledger (closeLoadWork_ledger _ p) s
  case endShift p => exact grantRequest_ledger (endShiftWork_ledger p) s
  case restoreSnapshot p => exact grantRequest_ledger (restoreSnapshotWork_ledger _) s
  case supplyMeasurement v => exact execSupplyMeasurement_ledger _ v s
  case tagEvent => exact grantItem_ledger (work := tagEventWork) (by rintro ⟨⟩ _ ⟨⟩ u; exact u.tagEvent_ledger _ _) s
  case truckDump =>
    exact grantItem_ledger (work := truckDumpWork) (by rintro ⟨⟩ _ ⟨⟩ u; exact u.truckDump_ledger _ _ _ _ _) s
  case pileDump => exact grantItem_ledger (work := pileDumpWork) (by rintro ⟨⟩ _ ⟨⟩ u; exact .pileDump _) s
  case reweigh => exact grantItem_ledger (work := reweighWork) (by rintro ⟨⟩ _ ⟨⟩ u; exact .reweigh) s
  case lostCycle => exact grantItem_ledger (work := lostCycleWork) (by rintro ⟨⟩ _ ⟨⟩ u; exact .lostCycle) s
  case residue =>
    exact grantItem_ledger (work := residueWork) (by rintro ⟨⟩ _ ⟨⟩ u; exact u.applyResidue_ledger _ _ _) s

end Sys2Proof.Machine
end

section
/-! Every step keeps the log's bounds and the counters' relations (R145, R149, R153, R154, R156). -/

namespace Sys2Proof.Machine

/-! ### The log (R145, R148, R149, R151) -/

/-- The law of the log, for each port alike (R145, R149). -/
structure Log.lawful (l : Log) : Prop where
  length : l.records.length ≤ 64
  unread : ∀ p, l.unread.get p ≤ l.records.length
  missed : ∀ p, l.missed.get p ≤ max16

theorem logLaw_iff (s : State) : LogLaw s ↔ s.log.lawful := by
  constructor
  · rintro ⟨length, unreadCab, unreadFleet, missedCab, missedFleet⟩
    exact ⟨length, fun p => by cases p <;> assumption, fun p => by cases p <;> assumption⟩
  · rintro ⟨length, unread, missed⟩
    exact ⟨length, unread .cab, unread .fleet, missed .cab, missed .fleet⟩

theorem Log.afterReset_lawful : Log.afterReset.lawful :=
  ⟨Nat.zero_le _, fun p => by cases p <;> exact Nat.le_refl 0, fun p => by cases p <;> exact Nat.zero_le _⟩

/-- A full log stays full; a port that had read none of it keeps its count and misses one (R148, R149). -/
theorem Log.lawful.append {l : Log} (h : l.lawful) (r : LogRecord) : (l.append r).lawful := by
  obtain ⟨records, counts⟩ := l.append_spec r
  have bound := h.length
  have length : (l.append r).records.length = min (l.records.length + 1) 64 := by
    rw [records]
    split <;> simp <;> omega
  have port : ∀ p, (l.append r).unread.get p ≤ (l.append r).records.length ∧ (l.append r).missed.get p ≤ max16 := by
    intro p
    have unread := h.unread p
    obtain ⟨misses, gains⟩ := counts p
    by_cases full : 64 ≤ l.records.length ∧ l.unread.get p = 64
    · obtain ⟨same, missed⟩ := misses full
      rw [same, missed]
      exact ⟨by omega, Nat.min_le_right _ _⟩
    · obtain ⟨more, missed⟩ := gains full
      rw [more, missed]
      exact ⟨by omega, h.missed p⟩
  exact ⟨by omega, fun p => (port p).1, fun p => (port p).2⟩

/-- A read takes one off the reader's unread count and zeroes its missed count (R151). -/
theorem Log.lawful.afterRead {l : Log} (h : l.lawful) (p : Port) : (l.afterRead p).lawful := by
  have fewer : ∀ q, (l.afterRead p).unread.get q ≤ l.unread.get q ∧ (l.afterRead p).missed.get q ≤ l.missed.get q := by
    intro q
    by_cases own : q = p
    · subst own
      simp [Log.afterRead]
    · simp [Log.afterRead, Ports.get_modify_ne _ _ own]
  exact ⟨h.length, fun q => (fewer q).1.trans (h.unread q), fun q => (fewer q).2.trans (h.missed q)⟩

theorem Log.lawful.change {c : Instr} {l l' : Log} {x x' : Shift} (h : l.lawful) (hc : LedgerChange c l x l' x') :
    l'.lawful := by
  cases hc with
  | closes r => exact h.append _
  | endsShift _ _ r => exact h.append _
  | reads p => exact h.afterRead p
  | resets => exact Log.afterReset_lawful
  | _ => exact h

/-! ### The counters (R153, R154) -/

/-- The relations of the counters, and their widths (R153, R154). -/
structure Counters.lawful (c : Counters) : Prop where
  cycles : c.cycles = min (c.truckPasses + c.pileDumps) max32
  unweighed : c.unweighed ≤ c.truckPasses
  bounded : c.bounded

theorem Counters.zero_lawful : Counters.zero.lawful := by
  constructor <;> decide

/-- A close adds to the payload and the loads alone (R114). -/
theorem Counters.lawful.closed {c : Counters} (h : c.lawful) (total : Nat) : (closedCounters c total).lawful := by
  obtain ⟨cycles, unweighed, c1, c2, c3, _, c5, c6, c7, c8, c9, _⟩ := h
  exact ⟨cycles, unweighed, c1, c2, c3, Nat.min_le_right _ _, c5, c6, c7, c8, c9, Nat.min_le_right _ _⟩

/-- A saturating sum rises with either of its terms, itself saturating (R154). -/
theorem min_succ_add (cap a b : Nat) : min (min (a + b) cap + 1) cap = min (min (a + 1) cap + b) cap := by omega

/-- A truck dump counts a cycle and a pass, and no more unweighed passes than passes (R35). -/
theorem Counters.lawful.truckDump {c : Counters} (h : c.lawful) (w : WindowResult) (time : Nat) :
    (c.truckDump w time).lawful := by
  obtain ⟨cycles, unweighed, c1, c2, c3, c4, c5, c6, c7, c8, c9, c10⟩ := h
  have counted : (c.truckDump w time).unweighed ≤ min (c.unweighed + 1) max16 := by
    unfold Counters.truckDump
    dsimp only
    split <;> [exact Nat.le_refl _; exact le_min (Nat.le_succ _) c8]
  refine ⟨?_, ?_, Nat.min_le_right _ _, Nat.min_le_right _ _, c3, c4, Nat.min_le_right _ _, c6, c7, ?_, c9, c10⟩
  · simp only [Counters.truckDump, satAdd, cycles]
    exact min_succ_add _ _ _
  · exact counted.trans (min_le_min (Nat.succ_le_succ unweighed) (by decide))
  · exact counted.trans (Nat.min_le_right _ _)

/-- A pile dump counts a cycle and a pile dump (R36). -/
theorem Counters.lawful.pileDump {c : Counters} (h : c.lawful) (time : Nat) : (c.pileDump time).lawful := by
  obtain ⟨cycles, unweighed, c1, c2, c3, c4, c5, c6, c7, c8, c9, c10⟩ := h
  refine ⟨?_, unweighed, Nat.min_le_right _ _, c2, Nat.min_le_right _ _, c4, Nat.min_le_right _ _, c6, c7, c8, c9, c10⟩
  simp only [Counters.pileDump, satAdd, cycles, Nat.add_comm c.truckPasses]
  rw [min_succ_add, Nat.add_comm]

/-! ### A restored record (R189, R190) -/

theorem readCounters_bounded {bs rest : List Byte} {c : Counters} (h : readCounters bs = some (c, rest)) :
    c.bounded := by
  unfold readCounters at h
  simp only [Option.bind_eq_bind, Option.bind_eq_some_iff, Prod.exists, Option.pure_def, Option.some.injEq,
    Prod.mk.injEq] at h
  obtain ⟨_, _, h1, _, _, h2, _, _, h3, _, _, h4, _, _, h5, _, _, h6, _, _, h7, _, _, h8, _, _, h9, _, _, h10, rfl,
    _⟩ := h
  have word {v : Nat} {bs rest : List Byte} (h : readNat 4 bs = some (v, rest)) : v ≤ max32 :=
    Nat.le_of_lt_succ (readNat_lt h)
  have half {v : Nat} {bs rest : List Byte} (h : readNat 2 bs = some (v, rest)) : v ≤ max16 :=
    Nat.le_of_lt_succ (readNat_lt h)
  exact ⟨word h1, word h2, word h3, word h4, word h5, half h6, half h7, half h8, half h9, half h10⟩

/-- The figures of a framed record's shift that its bytes bound (V2 of R189, R198). -/
theorem framed_shift_bounded {payload : List Byte} {r : RawSnapshot} (h : framed payload = some r) :
    r.number ≤ max16 ∧ r.counters.bounded := by
  unfold framed at h
  dsimp only at h
  split at h
  · rename_i x read
    split at h
    · cases h
      unfold readSnapshot at read
      simp only [Option.bind_eq_bind, Option.bind_eq_some_iff, Prod.exists, Option.pure_def, Option.some.injEq,
        Prod.mk.injEq] at read
      obtain ⟨_, _, _, _, _, number, _, _, _, _, _, counters, _, _, _, _, _, _, _, _, _, _, _, _, _, _, _, _, _, _,
        rfl, _⟩ := read
      exact ⟨Nat.le_of_lt_succ (readNat_lt number), readCounters_bounded counters⟩
    · cases h
  · cases h
  · cases h

/-- A record that fails none of the checks has passed V8. -/
theorem RawSnapshot.countersOk_of_failing {r : RawSnapshot} (h : r.failing = none) : r.countersOk = true := by
  unfold RawSnapshot.failing at h
  simp only [Bool.not_eq_true', Bool.and_eq_false_iff, ite_eq_right_iff, reduceCtorEq, imp_false, not_or,
    Bool.not_eq_false, ite_eq_iff, false_or, and_false] at h
  obtain ⟨_, _, _, _, _, counters, _⟩ := h
  exact counters

/-- The counters of a checked record keep their relations (V8 of R189), and the cycles are no more than fit their
field. -/
theorem checkSnapshot_counters {payload : List Byte} {r : RawSnapshot} (h : checkSnapshot payload = .ok r) :
    r.counters.lawful := by
  obtain ⟨read, passed⟩ := checkSnapshot_ok h
  obtain ⟨_, bounded⟩ := framed_shift_bounded read
  have related := RawSnapshot.countersOk_of_failing passed
  simp only [RawSnapshot.countersOk, Bool.and_eq_true, beq_iff_eq, decide_eq_true_eq] at related
  obtain ⟨cycles, unweighed⟩ := related
  have ⟨fits, _⟩ := bounded
  exact ⟨by omega, unweighed, bounded⟩

/-- The shift number of a checked record (V9 of R189). -/
theorem checkSnapshot_number {payload : List Byte} {r : RawSnapshot} (h : checkSnapshot payload = .ok r) :
    1 ≤ r.number ∧ r.number ≤ max16 := by
  obtain ⟨read, passed⟩ := checkSnapshot_ok h
  obtain ⟨bound, _⟩ := framed_shift_bounded read
  obtain ⟨_, _, _, rest⟩ := RawSnapshot.checked_of_failing passed
  simp only [RawSnapshot.restOk, Bool.and_eq_true, bne_iff_ne] at rest
  obtain ⟨⟨⟨_, positive⟩, _⟩, _⟩ := rest
  exact ⟨Nat.one_le_iff_ne_zero.2 positive, bound⟩

/-! ### The shift block (R153 to R156) -/

/-- The law of the shift block. -/
structure Shift.lawful (x : Shift) : Prop where
  counters : x.counters.lawful
  number : 1 ≤ x.number ∧ x.number ≤ max16

theorem counterLaw_iff (s : State) : CounterLaw s ↔ s.shift.lawful :=
  ⟨fun ⟨cycles, unweighed, bounded, number⟩ => ⟨⟨cycles, unweighed, bounded⟩, number⟩,
    fun ⟨⟨cycles, unweighed, bounded⟩, number⟩ => ⟨cycles, unweighed, bounded, number⟩⟩

theorem nextShift_bounds {n : Nat} (h : n ≤ max16) : 1 ≤ nextShift n ∧ nextShift n ≤ max16 := by
  unfold nextShift
  split <;> simp only [max16] at * <;> omega

theorem Shift.lawful.change {c : Instr} {l l' : Log} {x x' : Shift} (h : x.lawful) (hc : LedgerChange c l x l' x') :
    x'.lawful := by
  have ⟨counters, number⟩ := h
  have ⟨cycles, unweighed, c1, c2, c3, c4, c5, c6, c7, c8, c9, c10⟩ := counters
  cases hc with
  | leaves => exact h
  | closes _ total => exact ⟨counters.closed total, number⟩
  | truckDump w time => exact ⟨counters.truckDump w time, number⟩
  | pileDump time => exact ⟨counters.pileDump time, number⟩
  | reweigh => exact ⟨⟨cycles, unweighed, c1, c2, c3, c4, c5, Nat.min_le_right _ _, c7, c8, c9, c10⟩, number⟩
  | residue => exact ⟨⟨cycles, unweighed, c1, c2, c3, c4, c5, c6, Nat.min_le_right _ _, c8, c9, c10⟩, number⟩
  | lostCycle => exact ⟨⟨cycles, unweighed, c1, c2, c3, c4, c5, c6, c7, c8, Nat.min_le_right _ _, c10⟩, number⟩
  | measures v => exact ⟨counters, number⟩
  | reads p => exact h
  | endsShift => exact ⟨Counters.zero_lawful, nextShift_bounds number.2⟩
  | restores _ r checked => exact ⟨checkSnapshot_counters checked, checkSnapshot_number checked⟩
  | resets n _ kept =>
    refine ⟨Counters.zero_lawful, ?_⟩
    obtain rfl | rfl := kept
    · exact ⟨Nat.le_refl 1, (by decide : 1 ≤ max16)⟩
    · exact number

/-! ### The statement -/

/-- Settles O54: a command makes one of the changes of the log and the shift block, each of which keeps both laws. -/
theorem stepsKeepLogAndCounters : Obligations.StepsKeepLogAndCounters := by
  intro s t log counters hs
  have kept : ∀ c (u : State), LogLaw u ∧ CounterLaw u → ∃ v, exec c u = .next v ∧ LogLaw v ∧ CounterLaw v := by
    rintro c u ⟨hl, hc⟩
    obtain ⟨v, hv, moved⟩ := exec_ledger c u
    exact ⟨v, hv, (logLaw_iff v).2 (((logLaw_iff u).1 hl).change moved),
      (counterLaw_iff v).2 (((counterLaw_iff u).1 hc).change moved)⟩
  exact step_keeps (P := fun u => LogLaw u ∧ CounterLaw u) (fun _ _ h => h) kept ⟨log, counters⟩ hs

end Sys2Proof.Machine
end

section
/-! END_SHIFT and NEXT_RECORD (R147 to R151, R156). -/

namespace Sys2Proof.Machine

/-! ### END_SHIFT (R156) -/

/-- A shift that ends raises SHIFT, and nothing else of a port changes (R148). -/
theorem State.endShift_ports (s : State) (p : Port) :
    samePorts s (s.endShift p) ∧ quietBays s (s.endShift p) ∧ noticedBoth s (s.endShift p) .shift := by
  have raised : (s.endShift p).ports = (s.raise .shift).ports := by rw [State.endShift_eq]
  obtain ⟨ports, counted⟩ := raised_ports (n := .shift) (by decide) rfl raised
  exact ⟨ports, .of_raised (n := .shift) (by decide) raised, counted⟩

/-- A SHIFT record that a command leaves in the log stood there before, unless the command ends a shift (R147). -/
theorem LedgerChange.shift_logged {c : Instr} {l l' : Log} {x x' : Shift} (hc : LedgerChange c l x l' x')
    (other : ∀ p, c ≠ .endShift p) {r : ShiftRecord} (hr : .shift r ∈ l'.records) : .shift r ∈ l.records := by
  cases hc with
  | closes load =>
    obtain ⟨kept, sub, records⟩ := l.append_records (.load load)
    rw [records] at hr
    exact sub.subset (by simpa using hr)
  | endsShift p named => exact absurd named (other p)
  | resets => cases hr
  | _ => exact hr

/-- Settles O38: END_SHIFT answers STALE or takes the five steps, and among the changes of the log none but its own
appends a SHIFT record. -/
theorem endShiftLogsAndBeginsAnew : Obligations.EndShiftLogsAndBeginsAnew := by
  refine ⟨fun s p r rest ho => ?_, fun c s t x other hx hr => ?_⟩
  · intro g n next
    refine ⟨fun stale => ho.answers none rfl (if_neg stale) rfl rfl rfl, fun named => ?_⟩
    obtain ⟨ports, quiet, raised⟩ := g.endShift_ports p
    obtain ⟨t, hx, acted⟩ := ho.acts (work := endShiftWork p) rfl (if_pos named) ports quiet
    have ⟨⟨_, waits, _⟩, _⟩ := ho
    have counted : ∀ q, noticed g (g.endShift p) q .shift → noticed s t q .shift := by
      intro q hq
      rw [noticed, acted.counts q .shift (by decide), hq, s.granted_pacer]
    have frame := acted.frame
    have arb := acted.arb
    rw [State.endShift_eq] at frame arb
    have log : t.log = s.log.append (.shift (s.shiftRecord p)) := by rw [frame]; rfl
    refine ⟨t, hx, by rw [frame]; rfl, ?_, by rw [frame]; rfl, ⟨counted .cab raised.1, counted .fleet raised.2⟩,
      by rw [arb]; rfl, by rw [arb]; exact waits, acted.queue, acted.answers, acted.otherQueue, acted.otherAnswers⟩
    rw [appended, log]
    exact Log.append_spec _ _
  · obtain ⟨u, hu, moved⟩ := exec_ledger c s
    rw [hx] at hu
    cases hu
    exact moved.shift_logged other hr

/-! ### NEXT_RECORD (R151) -/

/-- Settles O31: the work answers the oldest unread record, if there is one, and moves the reader's counts alone. -/
theorem nextRecordReadsOldestUnread : Obligations.NextRecordReadsOldestUnread := by
  intro s p r rest ho u missed g
  have read : (s.granted p rest).log.afterRead p = g.log := by cases p <;> rfl
  have work : ∀ figure, optional (s.log.oldestUnread p) LogRecord.bytes = figure →
      nextRecordWork p r.payload (s.granted p rest) = (g, ⟨.ok, figure ++ be 1 (u - 1) ++ missed⟩) := by
    rintro _ rfl
    rw [nextRecordWork, read]
    rfl
  refine ⟨fun x some oldest => ?_, fun none => ?_⟩
  · have figure : optional (s.log.oldestUnread p) LogRecord.bytes = 1 :: x.bytes := by
      rw [Log.oldestUnread, if_neg some.ne', oldest]
      rfl
    exact ho.answers .none rfl (work _ figure) rfl rfl rfl
  · have figure : optional (s.log.oldestUnread p) LogRecord.bytes = [0] := by
      rw [Log.oldestUnread, if_pos none]
      rfl
    have answered := work _ figure
    rw [none] at answered
    exact ho.answers .none rfl answered rfl rfl rfl

end Sys2Proof.Machine
end

section
/-! The supply measurement (R155, R161 to R164). -/

namespace Sys2Proof.Machine

/-! ### The monitor (R162) -/

/-- The warn levels of field 22 of R89, as a list. -/
theorem warnVolts_eq (level : Fin 4) : warnVolts level = [180, 200, 210, 220].getD level.val 0 := by
  revert level
  decide

/-- The table of R162, with its counts as the statements write them. -/
theorem Supply.judge_spec (m : Supply) (warn v : Nat) :
    (m.state = .normal → v < warn → m.lowCount + 1 < 3 → m.judge warn v = { m with lowCount := m.lowCount + 1 }) ∧
    (m.state = .normal → v < warn → 3 ≤ m.lowCount + 1 →
      m.judge warn v = { m with state := .low, lowCount := 0, highCount := 0 }) ∧
    (m.state = .normal → warn ≤ v → m.judge warn v = { m with lowCount := 0 }) ∧
    (m.state = .low → warn + 10 ≤ v → m.highCount + 1 < 3 →
      m.judge warn v = { m with highCount := m.highCount + 1 }) ∧
    (m.state = .low → warn + 10 ≤ v → 3 ≤ m.highCount + 1 →
      m.judge warn v = { m with state := .normal, lowCount := 0, highCount := 0 }) ∧
    (m.state = .low → v < warn + 10 → m.judge warn v = { m with highCount := 0 }) := by
  unfold Supply.judge
  refine ⟨fun normal below few => ?_, fun normal below third => ?_, fun normal above => ?_,
    fun low above few => ?_, fun low above third => ?_, fun low below => ?_⟩
  · simp only [normal, if_pos below, if_pos few]
  · simp only [normal, if_pos below, if_neg (Nat.not_lt.2 third)]
  · simp only [normal, if_neg (Nat.not_lt.2 above)]
  · simp only [low, if_pos above, if_pos few]
  · simp only [low, if_pos above, if_neg (Nat.not_lt.2 third)]
  · simp only [low, if_neg (Nat.not_le.2 below)]

/-- The monitor's table leaves the figures of R161 and R164. -/
theorem Supply.judge_figures (m : Supply) (warn v : Nat) :
    (m.judge warn v).lastVsys = m.lastVsys ∧ (m.judge warn v).minSince = m.minSince := by
  unfold Supply.judge
  (repeat' split) <;> exact ⟨rfl, rfl⟩

/-! ### A change of state (R163) -/

/-- An entry to LOW abandons a window and aborts a capture, on the blocks that it changes (R29, R45, R163). -/
theorem State.supplyLow_eq (s : State) : s.supplyLow = { s with
    weigh := { s.weigh with
      acc := if s.tracker.cycle = .weigh ∨ s.tracker.cycle = .check then { s.weigh.acc with abandoned := true }
        else s.weigh.acc
      bins := if s.tracker.capture.isSome then emptyBins else s.weigh.bins }
    tracker := { s.tracker with capture := none }
    arb := { s.arb with items := s.arb.items ++ (s.tracker.capture.toList.map fun k => .capture k none) } } := by
  have weighing : s.tracker.cycle.weighing = true ↔ s.tracker.cycle = .weigh ∨ s.tracker.cycle = .check := by
    cases s.tracker.cycle <;> decide
  have abandoned : (if s.tracker.cycle.weighing then s.modifyAcc Accumulator.abandon else s) = { s with
      weigh := { s.weigh with
        acc := if s.tracker.cycle = .weigh ∨ s.tracker.cycle = .check then { s.weigh.acc with abandoned := true }
          else s.weigh.acc } } := by
    simp only [weighing]
    split <;> rfl
  unfold State.supplyLow
  rw [abandoned]
  cases armed : s.tracker.capture with
  | none =>
    have disarmed : { s.tracker with capture := none } = s.tracker := by rw [← armed]
    rw [State.abortCapture_unarmed (by exact armed), disarmed]
    simp
  | some k =>
    rw [State.abortCapture_armed (by exact armed)]
    rfl

/-- What follows a measurement: nothing while the state stays, SUPPLY for a change of it, and with an entry to LOW what
the tracker makes of that (R163). -/
theorem State.supplyChanged_spec (s : State) (pre : SupplyState) :
    (s.supply.state = pre → s.supplyChanged pre = s) ∧
    (s.supply.state ≠ pre → s.supply.state = .normal → s.supplyChanged pre = s.raise .supply) ∧
    (s.supply.state ≠ pre → s.supply.state = .low → s.supplyChanged pre = (s.raise .supply).supplyLow) := by
  unfold State.supplyChanged
  refine ⟨fun same => if_pos same, fun differs normal => ?_, fun differs low => ?_⟩
  · rw [if_neg differs, normal]
  · rw [if_neg differs, low]

/-- A change of state raises SUPPLY, and nothing else of the ports changes (R163). -/
theorem State.supplyChanged_ports {s : State} {pre : SupplyState} (h : s.supply.state ≠ pre) :
    (s.supplyChanged pre).ports = (s.raise .supply).ports := by
  obtain ⟨_, normal, low⟩ := s.supplyChanged_spec pre
  cases state : s.supply.state
  · rw [normal h state]
  · rw [low h state, State.supplyLow_eq]

/-! ### The statement -/

/-- Settles O8: the figures and the table are the monitor's own, and what else changes is told by the change of its
state. -/
theorem supplyMeasurementIsJudged : Obligations.SupplyMeasurementIsJudged := by
  intro s vsys running v warn m
  obtain ⟨u, hu⟩ : ∃ u, u = s.measured v := ⟨_, rfl⟩
  obtain ⟨t, ht⟩ : ∃ t, t = u.supplyChanged m.state := ⟨_, rfl⟩
  have kept := u.supplyChanged_changes m.state
  have supply : t.supply = (m.record v).judge warn v := by
    have same : t.supply = u.supply := ht ▸ kept.kept (b := .supply) (by simp)
    rw [same, hu, State.measured, warnVolts_eq]
  have shift : t.shift = { s.shift with minVsys := min s.shift.minVsys v } := by
    have same : t.shift = u.shift := ht ▸ kept.kept (b := .shift) (by simp)
    rw [same, hu, State.measured]
  have measured : u = { s with supply := t.supply, shift := t.shift } := by
    rw [supply, shift, hu, State.measured, warnVolts_eq]
  have state : t.supply.state = u.supply.state := by rw [measured]
  obtain ⟨last, least⟩ := (m.record v).judge_figures warn v
  obtain ⟨fewLow, thirdLow, noLow, fewHigh, thirdHigh, noHigh⟩ := (m.record v).judge_spec warn v
  obtain ⟨stays, toNormal, toLow⟩ := u.supplyChanged_spec m.state
  have ports (differs : t.supply.state ≠ m.state) : t.ports = (u.raise .supply).ports :=
    ht ▸ State.supplyChanged_ports (state ▸ differs)
  refine ⟨t, ?_, supply ▸ last, supply ▸ least, shift, fun a b c => ?_, fun a b c => ?_, fun a b => ?_,
    fun a b c => ?_, fun a b c => ?_, fun a b => ?_, fun same => ?_, fun differs => ?_, fun differs normal => ?_,
    fun differs low => ?_⟩
  · rw [ht, hu]
    exact if_pos running
  · rw [supply, fewLow a b c]
    exact ⟨a, rfl, rfl⟩
  · rw [supply, thirdLow a b c]
    exact ⟨rfl, rfl, rfl⟩
  · rw [supply, noLow a b]
    exact ⟨a, rfl, rfl⟩
  · rw [supply, fewHigh a b c]
    exact ⟨a, rfl, rfl⟩
  · rw [supply, thirdHigh a b c]
    exact ⟨rfl, rfl, rfl⟩
  · rw [supply, noHigh a b]
    exact ⟨a, rfl, rfl⟩
  · exact (ht.trans (stays (state ▸ same))).trans measured
  · exact (raised_ports (n := .supply) (by decide) (by rw [measured]) (ports differs)).symm
  · have whole : t = { u with ports := t.ports } := by
      rw [ports differs]
      exact ht.trans (toNormal (state ▸ differs) (state ▸ normal))
    exact whole.trans (by rw [measured])
  · have whole := ht.trans (toLow (state ▸ differs) (state ▸ low))
    rw [State.supplyLow_eq] at whole
    rw [ports differs]
    refine whole.trans ?_
    rw [measured]
    rfl

end Sys2Proof.Machine
end

section
/-! Power-on reset and power collapse (R165), and the part while a reset or the lack of power holds it (R166). -/

namespace Sys2Proof

open Sys2Proof.Machine

/-- The commands whose event can occur on a part that does not run: the resets, the tick and the chip select. -/
def Instr.occursHeld : Instr → Bool
  | .clockTick | .cabCsNFall | .cabCsNRise => true
  | c => c.resets

/-- The event of any other command occurs on a running part alone. -/
theorem Instr.running_of_canOccur {c : Instr} {s : State} (h : c.canOccur s) (hc : c.occursHeld = false) :
    s.power = .running := by
  cases c with
  | powerOnReset | powerCollapse | pinReset | pinResetRelease | clockTick | cabCsNFall | cabCsNRise => cases hc
  | supplyMeasurement => exact h
  | sweepStart | readValue | probe | nodeRead | nodeWrite | tagEvent | truckDump | pileDump | reweigh | lostCycle
  | residue | zero | capture | frameGapTimeout | paceTimerExpiry =>
    obtain ⟨running, _⟩ := h
    exact running
  | syncByteReceived | frameArrival | frameDiscard | answerSent =>
    obtain ⟨⟨running, _⟩, _⟩ := h
    exact running
  | _ =>
    obtain ⟨_, _, _, _, _, ⟨running, _⟩, _⟩ := h
    exact running

end Sys2Proof

namespace Sys2Proof.Machine

/-! ### The power events (R165) -/

theorem exec_powerOnReset (s : State) : exec .powerOnReset s =
    .next (s.powerOnDefaults (if s.pins.resetLow then .held .powerOn else .running)) := rfl

theorem exec_powerCollapse (s : State) : exec .powerCollapse s = .next (s.powerOnDefaults .off) := rfl

/-- Settles O4: both events put every block at its power-on defaults, and differ in the power state alone. -/
theorem powerEventsGiveDefaults : Obligations.PowerEventsGiveDefaults :=
  fun s => ⟨exec_powerOnReset s, exec_powerCollapse s⟩

/-! ### The part that does not run (R165, R166) -/

/-- RESET_N falls on a part that does not run: the pin alone takes its level (R166). -/
theorem exec_pinReset_held {s : State} (held : s.power ≠ .running) :
    exec .pinReset s = .next { s with pins := { s.pins with resetLow := true } } := by
  simp only [exec, execPinReset]
  split <;> [contradiction; rfl; rfl]

/-- A port of a part that does not run moves no bytes (R171). -/
theorem State.portOpen_held {s : State} (held : s.power ≠ .running) (p : Port) : s.portOpen p = false := by
  rw [← Bool.not_eq_true, s.portOpen_iff]
  exact fun ⟨running, _⟩ => held running

/-- CAB_CS_N rises on a part that does not run: the receiver stays, and the pin takes its level (R171). -/
theorem exec_cabCsNRise_held {s : State} (held : s.power ≠ .running) :
    exec .cabCsNRise s = .next { s with pins := { s.pins with csLow := false } } := by
  simp [exec, execCabCsNRise, State.portOpen_held held]

/-- Settles O5: three commands move a pin alone, and the event of every other one needs a running part. -/
theorem heldPartDoesNothing : Obligations.HeldPartDoesNothing := by
  intro c s t held notOn notCollapse notRelease notTick next
  have takes {pins : Pins} (h : exec c s = .next { s with pins := pins }) : t = { s with pins := t.pins } := by
    rw [h] at next
    cases next
    rfl
  have idle (hc : c.occursHeld = false) : t = { s with pins := t.pins } :=
    takes (pins := s.pins) (exec_idle fun h => held (Instr.running_of_canOccur h hc))
  cases c with
  | powerOnReset => exact absurd rfl notOn
  | powerCollapse => exact absurd rfl notCollapse
  | pinResetRelease => exact absurd rfl notRelease
  | clockTick => exact absurd rfl notTick
  | pinReset => exact takes (exec_pinReset_held held)
  | cabCsNFall => exact takes rfl
  | cabCsNRise => exact takes (exec_cabCsNRise_held held)
  | _ => exact idle rfl

end Sys2Proof.Machine
end

section
/-! SUPPORT. The attention line of a pacer (R182 to R185): what a raised notice, a collection, a new enable set and the
pace timer's expiry make of it, and that each keeps the pacer's figures in their ranges and its line by R185. -/

namespace Sys2Proof.Machine

/-! ### What drives the line (R185) -/

theorem NoticeKind.mem_all (k : NoticeKind) : k ∈ NoticeKind.all := by cases k <;> decide

theorem Pacer.due_iff (pc : Pacer) : pc.due = true ↔ ∃ k, pc.enabled k = true ∧ 0 < pc.count k := by
  simp [Pacer.due, NoticeKind.mem_all]

theorem Pacer.due_eq_false_iff (pc : Pacer) : pc.due = false ↔ ∀ k, pc.enabled k = true → pc.count k = 0 := by
  simp [← Bool.not_eq_true, Pacer.due_iff]

/-- A counted notice moves no more than the counts and the sets (R182). -/
theorem Pacer.note_frame (pc : Pacer) (n : Notice) : (pc.note n).enables = pc.enables ∧
    (pc.note n).interval = pc.interval ∧ (pc.note n).timer = pc.timer ∧ (pc.note n).line = pc.line := by
  cases n <;> exact ⟨rfl, rfl, rfl, rfl⟩

theorem Pacer.enabled_note (pc : Pacer) (n : Notice) (k : NoticeKind) : (pc.note n).enabled k = pc.enabled k := by
  rw [Pacer.enabled, (pc.note_frame n).1]
  rfl

theorem Pacer.count_note (pc : Pacer) (n : Notice) (k : NoticeKind) :
    (pc.note n).count k = if k = n.kind then min (pc.count k + 1) 255 else pc.count k := by
  rw [← Pacer.count_raise]
  unfold Pacer.raise
  dsimp only
  split <;> rfl

/-- A notice of an enabled kind makes the pacer due. -/
theorem Pacer.due_note {pc : Pacer} {n : Notice} (h : pc.enabled n.kind = true) : (pc.note n).due = true := by
  refine (Pacer.due_iff _).2 ⟨n.kind, (pc.enabled_note n _).trans h, ?_⟩
  rw [Pacer.count_note, if_pos rfl]
  omega

/-- A notice of a disabled kind leaves it due or not. -/
theorem Pacer.due_note_disabled {pc : Pacer} {n : Notice} (h : pc.enabled n.kind = false) :
    (pc.note n).due = pc.due := by
  refine Bool.eq_iff_iff.2 ?_
  simp only [Pacer.due_iff, Pacer.enabled_note, Pacer.count_note]
  refine exists_congr fun k => and_congr_right fun enabled => ?_
  rw [if_neg]
  rintro rfl
  rw [h] at enabled
  cases enabled

/-! ### The law of a pacer (R182, R184, R185) -/

/-- The figures of a pacer of this port are in their ranges, and NODE is not counted in the Cab port's (R15, R182). -/
structure Pacer.ranged (p : Port) (pc : Pacer) : Prop where
  counts : ∀ k, pc.count k ≤ 255
  interval : pc.interval ≤ 200
  timer : ∀ t ∈ pc.timer, 1 ≤ t ∧ t ≤ 200
  node : p = .cab → pc.count .node = 0

/-- The line is asserted only while the pacer is due, and with the line deasserted and the timer stopped it is not due
(R185). -/
structure Pacer.driven (pc : Pacer) : Prop where
  due : pc.line = true → pc.due = true
  settled : pc.settled

theorem Pacer.counts_iff (pc : Pacer) : (∀ i : Fin 12, pc.pending[i] ≤ 255) ↔ ∀ k, pc.count k ≤ 255 := by
  have kinds : ∀ i : Fin 12, ∃ k ∈ NoticeKind.all, k.num = i := by decide
  refine ⟨fun h k => h k.num, fun h i => ?_⟩
  obtain ⟨k, _, rfl⟩ := kinds i
  exact h k

/-- A line asserts with its timer started for the interval (R185). -/
theorem Pacer.ranged.assert {p : Port} {pc : Pacer} (h : pc.ranged p) : pc.assert.ranged p := by
  refine ⟨h.counts, h.interval, fun t ht => ?_, h.node⟩
  have started : t = pc.interval ∧ pc.interval ≠ 0 := by
    unfold Pacer.assert at ht
    dsimp only at ht
    split at ht <;> cases ht
    exact ⟨rfl, by assumption⟩
  have bound := h.interval
  omega

theorem Pacer.driven_assert {pc : Pacer} (h : pc.due = true) : pc.assert.driven := ⟨fun _ => h, nofun⟩

/-- A pacer whose line asserts on a condition that makes it due, and that is settled without it. -/
theorem Pacer.driven_assertIf {pc : Pacer} {c : Bool} (due : pc.line = true ∨ c = true → pc.due = true)
    (settled : c = false → pc.settled) : (if c then pc.assert else pc).driven := by
  cases c with
  | true => exact Pacer.driven_assert (due (.inr rfl))
  | false => exact ⟨fun on => due (.inl on), settled rfl⟩

theorem Pacer.ranged.note {p : Port} {pc : Pacer} (h : pc.ranged p) {n : Notice} (hn : ¬(n = .node ∧ p = .cab)) :
    (pc.note n).ranged p := by
  obtain ⟨_, interval, timer, _⟩ := pc.note_frame n
  refine ⟨fun k => ?_, interval ▸ h.interval, timer ▸ h.timer, fun hp => ?_⟩
  · rw [Pacer.count_note]
    split <;> [exact Nat.min_le_right _ _; exact h.counts k]
  · rw [Pacer.count_note, if_neg, h.node hp]
    intro kind
    refine hn ⟨?_, hp⟩
    cases n <;> cases kind
    rfl

/-- A notice that reaches the pacer (R182, R185, first two rows). -/
theorem Pacer.ranged.raise {p : Port} {pc : Pacer} (h : pc.ranged p) {n : Notice} (hn : ¬(n = .node ∧ p = .cab)) :
    (pc.raise n).ranged p := by
  unfold Pacer.raise
  dsimp only
  split <;> [exact (h.note hn).assert; exact h.note hn]

theorem Pacer.driven.raise {pc : Pacer} (h : pc.driven) (n : Notice) : (pc.raise n).driven := by
  obtain ⟨_, _, timer, line⟩ := pc.note_frame n
  unfold Pacer.raise
  cases enabled : pc.enabled n.kind with
  | true =>
    refine Pacer.driven_assertIf (fun _ => Pacer.due_note enabled) fun waits off stopped => ?_
    simp [Pacer.enabled_note, enabled, off, stopped] at waits
  | false =>
    have same := Pacer.due_note_disabled enabled
    refine Pacer.driven_assertIf (fun drives => ?_) fun _ off stopped => ?_
    · rcases drives with on | asserts
      · exact same ▸ h.due (line ▸ on)
      · simp [Pacer.enabled_note, enabled] at asserts
    · exact same ▸ h.settled (line ▸ off) (timer ▸ stopped)

/-- The pace timer's expiry (R185, third row). -/
theorem Pacer.ranged.expire {p : Port} {pc : Pacer} (h : pc.ranged p) : pc.expire.ranged p := by
  have stopped : ({ pc with timer := none } : Pacer).ranged p := ⟨h.counts, h.interval, by rintro t ⟨⟩, h.node⟩
  unfold Pacer.expire
  dsimp only
  split
  · exact h
  · split <;> [exact stopped.assert; exact stopped]

theorem Pacer.driven.expire {pc : Pacer} (h : pc.driven) : pc.expire.driven := by
  unfold Pacer.expire
  split
  · exact h
  · refine Pacer.driven_assertIf (pc := { pc with timer := none }) (fun drives => ?_) fun waits off _ => ?_
    · rcases drives with on | asserts
      · exact h.due on
      · exact (Bool.and_eq_true_iff.1 asserts).2
    · rw [off] at waits
      exact waits

/-- A collection (R183). -/
theorem Pacer.count_collect (pc : Pacer) (k : NoticeKind) : pc.collect.count k = 0 := by
  simp [Pacer.count, Pacer.collect]

theorem Pacer.ranged.collect {p : Port} {pc : Pacer} (h : pc.ranged p) : pc.collect.ranged p :=
  ⟨fun k => by rw [Pacer.count_collect]; omega, h.interval, h.timer, fun _ => pc.count_collect _⟩

theorem Pacer.driven_collect (pc : Pacer) : pc.collect.driven :=
  ⟨nofun, fun _ _ => (Pacer.due_eq_false_iff _).2 fun k _ => pc.count_collect k⟩

/-- A new enable set and interval (R184; R185, last row). -/
theorem Pacer.ranged.configure {p : Port} {pc : Pacer} (h : pc.ranged p) (enables : BitVec 12) (interval : Nat) :
    (pc.configure enables interval).ranged p := by
  have fresh : ({ pc with enables := enables, interval := min interval 200 } : Pacer).ranged p :=
    ⟨h.counts, Nat.min_le_right _ _, h.timer, h.node⟩
  unfold Pacer.configure
  dsimp only
  split
  · split <;> [exact fresh; exact ⟨fresh.counts, fresh.interval, fresh.timer, fresh.node⟩]
  · split <;> [exact fresh.assert; exact fresh]

/-- Whatever drove the line before, a new enable set drives it by R185. -/
theorem Pacer.driven_configure (pc : Pacer) (enables : BitVec 12) (interval : Nat) :
    (pc.configure enables interval).driven := by
  unfold Pacer.configure
  dsimp only
  split
  · rename_i on
    split
    · exact ⟨fun _ => by assumption, fun off => absurd on (Bool.eq_false_iff.1 off)⟩
    · rename_i idle
      exact ⟨nofun, fun _ _ => Bool.eq_false_iff.2 idle⟩
  · rename_i off
    refine Pacer.driven_assertIf (fun drives => ?_) fun waits _ stopped => ?_
    · rcases drives with on | asserts
      · exact absurd on off
      · exact (Bool.and_eq_true_iff.1 asserts).2
    · rw [show pc.timer = none from stopped] at waits
      exact waits

end Sys2Proof.Machine
end

section
/-! SUPPORT. The pacers of both ports through the operations and the commands: whatever reaches a pacer is a notice, a
collection, a new enable set or its timer's expiry, each of which keeps its law (R182 to R185). -/

namespace Sys2Proof.Machine

/-! ### Both pacers -/

/-- Each pacer's figures are in their ranges, and its line is driven by R185. -/
abbrev pacersInOrder (s : State) : Prop := ∀ p, (s.port p).pacer.ranged p ∧ (s.port p).pacer.driven

theorem pacersInOrder.congr {s t : State} (h : pacersInOrder s) (kept : ∀ p, (Block.pacer p).kept s t) :
    pacersInOrder t := fun p => by
  rw [show (t.port p).pacer = (s.port p).pacer from kept p]
  exact h p

theorem pacersInOrder.of_ports {s t : State} (h : pacersInOrder s) (ports : t.ports = s.ports) : pacersInOrder t :=
  h.congr fun p => congrArg PortBlock.pacer (State.port_of_ports ports p)

theorem pacersInOrder.raise {s : State} (h : pacersInOrder s) (n : Notice) : pacersInOrder (s.raise n) := by
  intro p
  obtain ⟨ranged, driven⟩ := h p
  rw [State.pacer_raise]
  split <;> [exact h p; exact ⟨ranged.raise (by assumption), driven.raise n⟩]

theorem pacersInOrder.of_raised {s t : State} (h : pacersInOrder s) (n : Notice) (ports : t.ports = (s.raise n).ports) :
    pacersInOrder t := (h.raise n).of_ports ports

/-- The end of a grant raises at most a BAY for each bay (R97). -/
theorem pacersInOrder.settle {s : State} (h : pacersInOrder s) (pre : State) : pacersInOrder (pre.settle s) := by
  have bay : ∀ (t : State) (d : Side), pacersInOrder t → pacersInOrder (pre.raiseBayChange d t) := by
    intro t d ht
    unfold State.raiseBayChange
    split <;> [exact ht.raise _; exact ht]
  exact (bay _ .right (bay s .left h)).of_ports rfl

theorem pacersInOrder.answer {s : State} (h : pacersInOrder s) (p : Port) (a : Answer) :
    pacersInOrder (s.answer p a) := h.congr fun q => s.pacer_answer p q a

/-- A change of one port's pacer that keeps the law. -/
theorem pacersInOrder.modifyPacer {s : State} (h : pacersInOrder s) (p : Port) {f : Pacer → Pacer}
    (hf : ∀ pc : Pacer, pc.ranged p → pc.driven → (f pc).ranged p ∧ (f pc).driven) :
    pacersInOrder (s.modifyPort p fun b => b.modifyPacer f) := by
  intro q
  by_cases own : q = p
  · subst own
    obtain ⟨ranged, driven⟩ := h q
    rw [State.port_modifyPort_same]
    exact hf _ ranged driven
  · rw [State.port, State.modifyPort, Ports.get_modify_ne _ _ own]
    exact h q

/-! ### The sensor link and the tracker (R9, R15, R32) -/

theorem pacersInOrder.setRole {s : State} (h : pacersInOrder s) (role : Role) (x : RoleRec) :
    pacersInOrder (s.setRole role x) := by
  intro p
  obtain ⟨ranged, driven⟩ := h p
  rw [State.setRole_port]
  split <;> [exact ⟨ranged.raise (by simp), driven.raise _⟩; exact h p]

theorem pacersInOrder.rebind {s : State} (h : pacersInOrder s) (binding : Roles (Option (Fin 16))) :
    pacersInOrder (s.rebind binding) := by
  have fold : ∀ (roles : List Role) (t : State), pacersInOrder t →
      pacersInOrder (roles.foldl (fun t role => t.rebindRole binding role) t) := by
    intro roles
    induction roles with
    | nil => exact fun _ ht => ht
    | cons role rest ih => exact fun t ht => ih _ (ht.setRole role _)
  exact fold Role.all s h

theorem pacersInOrder.enterCarry {s : State} (h : pacersInOrder s) : pacersInOrder s.enterCarry := by
  have check : ∀ (t : State) (net : Nat) (d : Side), pacersInOrder t → pacersInOrder (t.overloadCheck net d) := by
    intro t net d ht
    rw [State.overloadCheck_eq]
    split <;> [exact pacersInOrder.raise (s := t.modifyTracker _) ht _; exact ht]
  unfold State.enterCarry
  dsimp only
  split <;> [exact h; exact check _ _ .right (check _ _ .left h)]

theorem pacersInOrder.changeCycle {s : State} (h : pacersInOrder s) (r : SweepRecord) :
    pacersInOrder (s.changeCycle r) := by
  unfold State.changeCycle
  dsimp only
  split
  · split <;> exact h.of_ports (by simp)
  split
  · split <;> exact h.of_ports (by simp)
  split
  · exact h.of_ports (by simp)
  · rcases s.boomTransition_ports r.boom.number with same | carried
    · exact h.of_ports same
    · exact h.enterCarry.of_ports carried

theorem pacersInOrder.endSweep {s : State} (h : pacersInOrder s) (sw : Sweep) : pacersInOrder (s.endSweep sw) := by
  obtain ⟨k, n, ended⟩ := s.endSweep_eq sw
  obtain ⟨v, _, weighed, same⟩ := s.sweepOver.takeRecord_weighed rfl (sweepRecord s.link sw)
  have found : pacersInOrder v := h.of_ports same
  exact (found.changeCycle (sweepRecord s.link sw)).of_ports (by rw [ended]; exact weighed.ports)

theorem pacersInOrder.serveEnds {s : State} (h : pacersInOrder s) (sw : Sweep) (i : Fin 2) (a : Access)
    (seen : Option NodeType) (x : AccessResult) : pacersInOrder (s.serveEnds sw i a seen x) := by
  rw [State.serveEnds_hears, State.hears_eq]
  refine pacersInOrder.endSweep ?_ sw
  exact h.of_raised .node rfl

/-- The start of a sweep and its transactions. -/
theorem pacersInOrder.transaction {c : Instr} {s : State} (h : pacersInOrder s) (hc : c.writesLink = true)
    (hq : c.request = none) : ∃ t, exec c s = .next t ∧ pacersInOrder t := by
  by_cases ho : c.canOccur s
  case neg => exact ⟨s, exec_idle ho, h⟩
  cases c <;> simp only [Instr.writesLink, Instr.endsSweep, Instr.request, Bool.or_false, Bool.false_eq_true,
    reduceCtorEq] at hc hq
  case sweepStart =>
    obtain ⟨hp, hs⟩ := ho
    exact ⟨_, exec_sweepStart hp hs, (h.rebind s.cal.profile.binding).of_ports (by simp)⟩
  case readValue role reply =>
    obtain ⟨hp, sw, hs, hhead, hbound⟩ := ho
    obtain ⟨rest, hr⟩ := List.head?_eq_some_iff.1 hhead
    obtain ⟨addr, hb⟩ := Option.isSome_iff_exists.1 hbound
    refine ⟨_, exec_readValue hp hs hr hb reply, fun p => ?_⟩
    obtain ⟨ranged, driven⟩ := h p
    rw [(s.readEnds_ended sw rest role addr reply).port p]
    split <;> [exact ⟨ranged.raise (by simp), driven.raise _⟩; exact h p]
  case probe reply =>
    obtain ⟨hp, sw, hs, hr, hi⟩ := ho
    refine ⟨_, exec_probe hp hs hr hi reply, ?_⟩
    rw [State.probeEnds_eq, State.probed_eq]
    split
    · exact h
    · refine pacersInOrder.endSweep ?_ sw
      exact h
  case nodeRead reply =>
    obtain ⟨hp, sw, hs, i, hi, a, ha, hd⟩ := ho
    exact ⟨_, exec_nodeRead hp (State.serving_eq_some.2 ⟨hs, hi, ha⟩) hd reply, h.serveEnds sw i a _ _⟩
  case nodeWrite reply =>
    obtain ⟨hp, sw, hs, i, hi, a, ha, hd⟩ := ho
    exact ⟨_, exec_nodeWrite hp (State.serving_eq_some.2 ⟨hs, hi, ha⟩) hd reply, h.serveEnds sw i a _ _⟩

/-! ### Items and requests -/

theorem pacersInOrder.closeLoad {s : State} (h : pacersInOrder s) (d : Side) (reason : CloseReason) :
    pacersInOrder (s.closeLoad d reason) := h.of_raised .logged (by rw [State.closeLoad_eq])

theorem pacersInOrder.truckArrives {s : State} (h : pacersInOrder s) (d : Side) (tag : Nat) :
    pacersInOrder (s.truckArrives d tag) := by
  rcases s.truckArrives_ports d tag with same | logged
  · exact h.of_ports same
  · exact h.of_raised .logged logged

theorem pacersInOrder.tagEvent {s : State} (h : pacersInOrder s) (e : TagEvent) : pacersInOrder (s.tagEvent e) := by
  by_cases differs : notBeside s e.side e.tag
  · rw [State.tagEvent_arrives differs]
    exact h.truckArrives e.side e.tag
  · rw [State.tagEvent_crossRead differs]
    exact h

theorem pacersInOrder.grantItem {s : State} (h : pacersInOrder s) {work : Item → Option (State → State)}
    (hw : ∀ i f, work i = some f → ∀ u, pacersInOrder u → pacersInOrder (f u)) :
    ∃ t, grantItem work s = .next t ∧ pacersInOrder t :=
  grantItem_keeps h fun i f _ _ hf => (hw i f hf s.dropItem (h.of_ports rfl)).settle s

theorem pacersInOrder.itemGrant {c : Instr} {s : State} (h : pacersInOrder s) (hc : c.grantsItem = true) :
    ∃ t, exec c s = .next t ∧ pacersInOrder t := by
  cases c <;> simp only [Instr.grantsItem, Bool.false_eq_true] at hc
  case tagEvent =>
    refine h.grantItem (work := tagEventWork) ?_
    rintro ⟨⟩ _ ⟨⟩ u hu
    exact hu.tagEvent _
  case truckDump =>
    refine h.grantItem (work := truckDumpWork) ?_
    rintro ⟨⟩ _ ⟨⟩ u hu
    exact hu.of_raised (.pass _) (by dsimp only; rw [State.truckDump_eq]; rfl)
  case residue =>
    refine h.grantItem (work := residueWork) ?_
    rintro ⟨⟩ _ ⟨⟩ u hu
    exact hu.of_raised .residue (u.applyResidue_ports _ _)
  case zero =>
    refine h.grantItem (work := zeroWork) ?_
    rintro ⟨⟩ _ ⟨⟩ u hu
    exact hu.of_raised .zero (by dsimp only; split <;> rfl)
  case pileDump =>
    exact h.grantItem (work := pileDumpWork) (by rintro ⟨⟩ _ ⟨⟩ u hu; exact hu.of_raised .pile rfl)
  case capture =>
    exact h.grantItem (work := captureWork) (by rintro ⟨⟩ _ ⟨⟩ u hu; exact hu.of_raised .capture rfl)
  case reweigh => exact h.grantItem (work := reweighWork) (by rintro ⟨⟩ _ ⟨⟩ u hu; exact hu)
  case lostCycle => exact h.grantItem (work := lostCycleWork) (by rintro ⟨⟩ _ ⟨⟩ u hu; exact hu)

end Sys2Proof.Machine
end

section
/-! Every step keeps the bounds of the queues, the answer buffers and the receivers (R169 to R174), and the attention
lines' law (R182, R185). -/

namespace Sys2Proof.Machine

/-! ### The bounds of a port (R169 to R174) -/

/-- The bounds speak of neither the pacer nor the bytes that went last; a discarded count may fall. -/
theorem PortBlock.bounded.congr {b b' : PortBlock} (h : b.bounded)
    (same : b' = { b with out := b'.out, discarded := b'.discarded, pacer := b'.pacer })
    (fewer : b'.discarded ≤ b.discarded) : b'.bounded := by
  obtain ⟨queue, answers, payloads, discarded, sent, empty, gathered⟩ := h
  rw [same]
  exact ⟨queue, answers, payloads, fewer.trans discarded, sent, empty, gathered⟩

theorem PortBlock.bounded.assembles {b : PortBlock} (h : b.bounded) {a : Assembler} (ha : a.gathered ≤ longestFrame) :
    ({ b with assembler := a } : PortBlock).bounded := by
  obtain ⟨queue, answers, payloads, discarded, sent, empty, _⟩ := h
  exact ⟨queue, answers, payloads, discarded, sent, empty, ha⟩

theorem PortBlock.bounded.countDiscard {b : PortBlock} (h : b.bounded) : b.countDiscard.bounded := by
  obtain ⟨queue, answers, payloads, _, rest⟩ := h
  exact ⟨queue, answers, payloads, Nat.min_le_right _ _, rest⟩

/-- What is left of the answers after sending stands at the end of the buffer, and the oldest is not sent in full
(R174). -/
theorem PortBlock.bounded.send {b : PortBlock} (h : b.bounded) (p : Port) (n : Nat) : (b.send p n).bounded := by
  obtain ⟨queue, answers, payloads, discarded, _, _, gathered⟩ := h
  obtain ⟨_, _, ⟨i, left⟩, sent, empty⟩ := b.send_spec p n
  refine ⟨queue, ?_, payloads, discarded, sent, empty, gathered⟩
  rw [left, List.length_drop]
  omega

theorem PortBlock.bounded.receive {b : PortBlock} (h : b.bounded) (p : Port) (n : Nat) : (b.receive p n).bounded := by
  cases p <;> [exact h.send .cab n; exact h]

theorem PortBlock.bounded.breakFrame {b : PortBlock} (h : b.bounded) : b.breakFrame.bounded := by
  unfold PortBlock.breakFrame
  split <;> [exact h; exact h.countDiscard.assembles (Nat.zero_le _)]

theorem PortBlock.bounded.breakAt {b : PortBlock} (h : b.bounded) (p : Port) (k : Nat) : (b.breakAt p k).bounded := by
  unfold PortBlock.breakAt
  split
  · exact h
  · split <;> [exact (h.receive p _).breakFrame; exact h]

/-- An answer takes a free place; behind an empty buffer none of its bytes has gone out (R174). -/
theorem PortBlock.bounded.answered {b : PortBlock} (h : b.bounded) (free : b.answers.length < 4) (a : Answer) :
    ({ b with answers := b.answers ++ [a] } : PortBlock).bounded := by
  obtain ⟨queue, _, payloads, discarded, sent, empty, gathered⟩ := h
  refine ⟨queue, by simpa using free, payloads, discarded, fun x hx => ?_, by simp, gathered⟩
  cases waiting : b.answers with
  | nil =>
    change b.sent < x.size
    rw [empty waiting]
    exact x.size_pos
  | cons y rest =>
    refine sent x ?_
    rw [waiting] at hx ⊢
    exact hx

theorem PortBlock.bounded.refuseArrival {b : PortBlock} (h : b.bounded) (a : Answer) :
    (b.refuseArrival a).bounded := by
  unfold PortBlock.refuseArrival
  split <;> [exact h.countDiscard.answered (by assumption) a; exact h.countDiscard]

/-- A request joins a queue of fewer than four (R173). -/
theorem PortBlock.bounded.queued {b : PortBlock} (h : b.bounded) (free : b.queue.length < 4) {r : Request}
    (hr : r.payload.length ≤ 480) : ({ b with queue := b.queue ++ [r] } : PortBlock).bounded := by
  obtain ⟨_, answers, payloads, rest⟩ := h
  refine ⟨by simpa using free, answers, ?_, rest⟩
  exact List.forall_mem_append.2 ⟨payloads, by simpa using hr⟩

theorem PortBlock.bounded.arrive {b : PortBlock} (h : b.bounded) {f : Frame} (hf : f.payload.length ≤ 480) :
    (b.arrive f).bounded := by
  unfold PortBlock.arrive
  split
  · exact h.refuseArrival _
  · split
    · exact h.refuseArrival _
    · split <;> [exact h.queued (by assumption) hf; exact h.refuseArrival _]

theorem PortBlock.bounded.complete {b : PortBlock} (h : b.bounded) (p : Port) {f : Frame}
    (hf : f.payload.length ≤ 480) : (b.complete p f).bounded := by
  unfold PortBlock.complete
  split
  · exact h
  · dsimp only
    split <;> [exact ((h.receive p _).assembles (Nat.zero_le _)).arrive hf; exact h]

/-- A granted request leaves its queue (R173). -/
theorem PortBlock.bounded.dropsHead {b : PortBlock} (h : b.bounded) :
    ({ b with queue := b.queue.tail } : PortBlock).bounded := by
  obtain ⟨queue, answers, payloads, rest⟩ := h
  refine ⟨?_, answers, fun r hr => payloads r (List.mem_of_mem_tail hr), rest⟩
  rw [List.length_tail]
  omega

theorem PortBlock.bounded.hold {b : PortBlock} (h : b.bounded) : b.hold.bounded := by
  obtain ⟨_, _, _, discarded, _⟩ := h
  exact ⟨Nat.zero_le _, Nat.zero_le _, nofun, discarded, nofun, fun _ => rfl, Nat.zero_le _⟩

/-! ### Both ports -/

theorem portLaw_iff (s : State) : PortLaw s ↔ ∀ p, (s.port p).bounded :=
  ⟨fun ⟨cab, fleet⟩ p => by cases p <;> assumption, fun h => ⟨h .cab, h .fleet⟩⟩

theorem PortLaw.port {s : State} (h : PortLaw s) (p : Port) : (s.port p).bounded := (portLaw_iff s).1 h p

/-- A change of both ports by which no discarded count rises and nothing else of the bounds changes. -/
theorem PortLaw.congr {s t : State} (h : PortLaw s)
    (same : ∀ p, t.port p = { s.port p with discarded := (t.port p).discarded, pacer := (t.port p).pacer })
    (fewer : ∀ p, (t.port p).discarded ≤ (s.port p).discarded) : PortLaw t := by
  refine (portLaw_iff t).2 fun p => (h.port p).congr ?_ (fewer p)
  rw [same p]

theorem PortLaw.of_samePorts {s t : State} (h : PortLaw s) (same : samePorts s t) : PortLaw t := by
  refine h.congr (fun p => ?_) fun p => ?_ <;> rw [same p]

theorem PortLaw.modifyPort {s : State} (h : PortLaw s) (p : Port) {f : PortBlock → PortBlock}
    (hf : (f (s.port p)).bounded) : PortLaw (s.modifyPort p f) := by
  refine (portLaw_iff _).2 fun q => ?_
  by_cases own : q = p
  · subst own
    rwa [State.port_modifyPort_same]
  · rw [State.port, State.modifyPort, Ports.get_modify_ne _ _ own]
    exact h.port q

/-! ### The requests -/

/-- What the work of a request does to the ports: the pacers stay in order, a discarded count may be zeroed, and nothing
else of a port changes (R176, R180, R183, R184). -/
structure PortsWorked (s t : State) : Prop where
  same : ∀ p, t.port p = { s.port p with discarded := (t.port p).discarded, pacer := (t.port p).pacer }
  fewer : ∀ p, (t.port p).discarded ≤ (s.port p).discarded
  pacers : pacersInOrder s → pacersInOrder t

/-- Work that does no more to the ports, whatever payload it is given. -/
abbrev PortsWork (work : List Byte → State → State × Reply) : Prop :=
  ∀ payload s, PortsWorked s (work payload s).1

theorem PortsWorked.of_samePorts {s t : State} (same : samePorts s t) (pacers : pacersInOrder s → pacersInOrder t) :
    PortsWorked s t := by
  refine ⟨fun p => ?_, fun p => ?_, pacers⟩ <;> rw [same p]

/-- Work on other blocks. -/
theorem WorkChanges.portsWork {bs : List Block} {work : List Byte → State → State × Reply} (h : WorkChanges bs work)
    (hb : ∀ p, .port p ∉ bs ∧ .pacer p ∉ bs := by simp) : PortsWork work := fun payload s =>
  .of_samePorts (fun p => (h payload s).kept (hb p).1) fun order => order.congr fun p => (h payload s).kept (hb p).2

/-- Work that may raise notices. -/
theorem WorkChanges.portsWork_of_pacers {bs : List Block} {work : List Byte → State → State × Reply}
    (h : WorkChanges bs work) (hp : ∀ payload s, pacersInOrder s → pacersInOrder (work payload s).1)
    (hb : ∀ p, .port p ∉ bs := by simp) : PortsWork work := fun payload s =>
  .of_samePorts (fun p => (h payload s).kept (hb p)) (hp payload s)

theorem viewPortWork_portsWork (p : Port) : PortsWork (viewPortWork p) := by
  intro payload s
  have zeroed : ∀ q, ((viewPortWork p payload s).1.port q) =
      if q = p then { s.port q with discarded := 0 } else s.port q := by
    intro q
    cases p <;> cases q <;> rfl
  refine ⟨fun q => ?_, fun q => ?_, fun order => order.congr fun q => ?_⟩
  · rw [zeroed]
    split <;> rfl
  · rw [zeroed]
    split <;> [exact Nat.zero_le _; exact Nat.le_refl _]
  · exact (viewPortWork_changes p payload s).kept (by simp)

theorem assignTruckWork_portsWork : PortsWork assignTruckWork := by
  refine assignTruckWork_changes.portsWork_of_pacers fun payload s h => ?_
  unfold assignTruckWork
  dsimp only
  split
  · exact h
  · (repeat' split) <;> [exact h; exact h; exact h; exact h; exact h.truckArrives _ _]

theorem closeLoadWork_portsWork (p : Port) : PortsWork (closeLoadWork p) := by
  refine (closeLoadWork_changes p).portsWork_of_pacers fun payload s h => ?_
  unfold closeLoadWork
  dsimp only
  split
  · exact h
  · split
    · exact h
    · split <;> exact h
    all_goals split <;> [exact h.closeLoad _ _; exact h]

theorem endShiftWork_portsWork (p : Port) : PortsWork (endShiftWork p) := by
  refine (endShiftWork_changes p).portsWork_of_pacers fun payload s h => ?_
  unfold endShiftWork
  split <;> [exact h.of_raised .shift (by rw [State.endShift_eq]); exact h]

theorem collectNoticesWork_portsWork (p : Port) : PortsWork (collectNoticesWork p) :=
  (collectNoticesWork_changes p).portsWork_of_pacers fun _ _ h =>
    h.modifyPacer p fun pc ranged _ => ⟨ranged.collect, pc.driven_collect⟩

theorem setNoticesWork_portsWork (p : Port) : PortsWork (setNoticesWork p) := by
  refine (setNoticesWork_changes p).portsWork_of_pacers fun payload s h => ?_
  unfold setNoticesWork
  dsimp only
  split
  · exact h.modifyPacer p fun pc ranged _ => ⟨ranged.configure _ _, pc.driven_configure _ _⟩
  · exact h

/-- Each request is granted by one work, which does no more to the ports. -/
theorem exec_request_ports {c : Instr} {k : ReqKind} {p : Port} (h : c.request = some (k, p)) :
    ∃ calen work, (∀ s, exec c s = grantRequest k p calen work s) ∧ PortsWork work := by
  cases c <;> simp only [Instr.request, reduceCtorEq, Option.some.injEq, Prod.mk.injEq] at h <;>
    obtain ⟨rfl, rfl⟩ := h
  case viewLive => exact ⟨_, _, fun _ => rfl, (viewWork_changes _).portsWork⟩
  case viewBay => exact ⟨_, _, fun _ => rfl, viewBayWork_changes.portsWork⟩
  case viewTruck => exact ⟨_, _, fun _ => rfl, viewTruckWork_changes.portsWork⟩
  case viewMaterial => exact ⟨_, _, fun _ => rfl, (viewWork_changes _).portsWork⟩
  case viewCounters => exact ⟨_, _, fun _ => rfl, (viewWork_changes _).portsWork⟩
  case nextRecord p => exact ⟨_, _, fun _ => rfl, (nextRecordWork_changes p).portsWork⟩
  case viewNodes => exact ⟨_, _, fun _ => rfl, viewNodesWork_changes.portsWork⟩
  case viewCurve => exact ⟨_, _, fun _ => rfl, viewCurveWork_changes.portsWork⟩
  case viewProfile => exact ⟨_, _, fun _ => rfl, (viewWork_changes _).portsWork⟩
  case viewPort p => exact ⟨_, _, fun _ => rfl, viewPortWork_portsWork p⟩
  case viewPart => exact ⟨_, _, fun _ => rfl, (viewWork_changes _).portsWork⟩
  case collectNotices p => exact ⟨_, _, fun _ => rfl, collectNoticesWork_portsWork p⟩
  case setNotices p => exact ⟨_, _, fun _ => rfl, setNoticesWork_portsWork p⟩
  case takeSnapshot => exact ⟨_, _, fun _ => rfl, (viewWork_changes _).portsWork⟩
  case selectBay => exact ⟨_, _, fun _ => rfl, selectBayWork_changes.portsWork⟩
  case assignTruck => exact ⟨_, _, fun _ => rfl, assignTruckWork_portsWork⟩
  case closeLoad p => exact ⟨_, _, fun _ => rfl, closeLoadWork_portsWork p⟩
  case setLoadTarget => exact ⟨_, _, fun _ => rfl, setLoadTargetWork_changes.portsWork⟩
  case zeroBucket => exact ⟨_, _, fun _ => rfl, zeroBucketWork_changes.portsWork⟩
  case cancelZero => exact ⟨_, _, fun _ => rfl, cancelZeroWork_changes.portsWork⟩
  case endShift p => exact ⟨_, _, fun _ => rfl, endShiftWork_portsWork p⟩
  case restoreSnapshot => exact ⟨_, _, fun _ => rfl, restoreSnapshotWork_changes.portsWork⟩
  case writeTruck => exact ⟨_, _, fun _ => rfl, writeTruckWork_changes.portsWork⟩
  case dropTruck => exact ⟨_, _, fun _ => rfl, dropTruckWork_changes.portsWork⟩
  case writeMaterial => exact ⟨_, _, fun _ => rfl, writeMaterialWork_changes.portsWork⟩
  case setTime => exact ⟨_, _, fun _ => rfl, setTimeWork_changes.portsWork⟩
  case nodeAccess => exact ⟨_, _, fun _ => rfl, nodeAccessWork_changes.portsWork⟩
  case nodeResult => exact ⟨_, _, fun _ => rfl, nodeResultWork_changes.portsWork⟩
  case stagePiece => exact ⟨_, _, fun _ => rfl, stagePieceWork_changes.portsWork⟩
  case stageFill => exact ⟨_, _, fun _ => rfl, stageFillWork_changes.portsWork⟩
  case startCapture => exact ⟨_, _, fun _ => rfl, startCaptureWork_changes.portsWork⟩
  case abortCapture => exact ⟨_, _, fun _ => rfl, abortCaptureWork_changes.portsWork⟩
  case installCurve => exact ⟨_, _, fun _ => rfl, installCurveWork_changes.portsWork⟩
  case setProfile => exact ⟨_, _, fun _ => rfl, setProfileWork_changes.portsWork⟩

/-- A granted request leaves its queue, and its answer takes the place that was free (R174, R175). -/
theorem PortLaw.grantRequest {s : State} (h : PortLaw s) {k : ReqKind} {p : Port} {calen : Option Bool}
    {work : List Byte → State → State × Reply} (hw : PortsWork work) :
    ∃ t, grantRequest k p calen work s = .next t ∧ PortLaw t := by
  have asked : PortLaw ((s.dropRequest p).readCalen calen) :=
    (h.modifyPort p (f := fun b => { b with queue := b.queue.tail }) (h.port p).dropsHead).of_samePorts
      (.of_ports (by simp [State.dropRequest]))
  have places : (((s.dropRequest p).readCalen calen).port p).answers = (s.port p).answers := by
    rw [State.port_of_ports (State.readCalen_ports _ _)]
    cases p <;> rfl
  have ended : ∀ (u : State) (a : Answer) (r : Request), s.turn = some (.request p r) → PortLaw u →
      (u.port p).answers = (s.port p).answers → PortLaw ((s.settle u).answer p a) := by
    intro u a r turn law answers
    obtain ⟨_, _, free⟩ := State.turn_request turn
    have settled : PortLaw (s.settle u) := law.of_samePorts fun q => s.port_settle u q
    refine settled.modifyPort p ((settled.port p).answered ?_ a)
    obtain ⟨_, same, _⟩ := s.settle_queue u p
    rwa [same, answers]
  refine grantRequest_keeps h (fun r a _ turn => ended _ a r turn asked places) fun r _ turn _ _ _ => ?_
  have worked := hw r.payload ((s.dropRequest p).readCalen calen)
  exact ended _ _ r turn (asked.congr worked.same worked.fewer) (by rw [worked.same p, places])

theorem pacersInOrder.grantRequest {s : State} (h : pacersInOrder s) {k : ReqKind} {p : Port} {calen : Option Bool}
    {work : List Byte → State → State × Reply} (hw : PortsWork work) :
    ∃ t, Machine.grantRequest k p calen work s = .next t ∧ pacersInOrder t := by
  have asked : pacersInOrder ((s.dropRequest p).readCalen calen) :=
    (h.congr fun q => (s.dropRequest_changes p).kept (by simp)).of_ports (by simp)
  refine grantRequest_keeps h (fun r a _ _ => (asked.settle s).answer p a) fun r _ _ _ _ _ => ?_
  exact (((hw r.payload _).pacers asked).settle s).answer p _

/-! ### The commands -/

/-- A byte event on a port moves the port within its bounds. -/
theorem PortLaw.byteEvent {c : Instr} {s : State} (h : PortLaw s) {p : Port} (ha : c.actsOn p = true)
    (hq : c.request = none) : ∃ t, exec c s = .next t ∧ PortLaw t := by
  have idle : ∃ t, Host.Outcome.next (φ := Fault) (ρ := Refusal) s = .next t ∧ PortLaw t := ⟨s, rfl, h⟩
  have moves : ∀ q f, (f (s.port q)).bounded →
      ∃ t, Host.Outcome.next (φ := Fault) (ρ := Refusal) (s.modifyPort q f) = .next t ∧ PortLaw t :=
    fun q f hf => ⟨_, rfl, h.modifyPort q hf⟩
  cases c <;> simp only [Instr.actsOn, Instr.request, Option.map_none, reduceCtorEq, beq_iff_eq] at ha hq <;>
    simp only [exec]
  case frameArrival q f =>
    unfold execFrameArrival
    split
    · refine moves q _ ?_
      split <;> [exact (h.port q).complete q (by assumption); exact (h.port q).breakAt q 2]
    · exact idle
  case frameDiscard q cause =>
    unfold execFrameDiscard
    split
    · refine moves q _ ?_
      cases cause <;> [exact (h.port q).breakAt q 2; exact (h.port q).breakFrame]
    · exact idle
  case cabCsNRise =>
    unfold execCabCsNRise
    split
    · exact ⟨_, rfl, (h.modifyPort .cab (h.port .cab).breakFrame).of_samePorts (.of_ports rfl)⟩
    · exact ⟨_, rfl, h⟩
  case frameGapTimeout =>
    unfold execFrameGapTimeout
    split <;> [exact moves .fleet _ (h.port .fleet).breakFrame; exact idle]
  case answerSent x =>
    obtain ⟨q, n⟩ := x
    unfold execAnswerSent
    dsimp only
    split
    · split
      · exact moves .cab _ ((h.port .cab).send .cab n)
      · split <;> [exact moves .cab _ (((h.port .cab).send .cab n).assembles (by assumption)); exact idle]
      · split <;> [exact moves .fleet _ ((h.port .fleet).send .fleet n); exact idle]
    · exact idle
  case syncByteReceived q =>
    unfold execSyncByteReceived
    split
    · split <;> [exact moves q _ (((h.port q).receive q 1).assembles (Nat.zero_le _)); exact idle]
    · exact idle

/-- Every command but a reset keeps the bounds of both ports. -/
theorem PortLaw.exec {c : Instr} {s : State} (h : PortLaw s) (hr : c.resets = false) :
    ∃ t, exec c s = .next t ∧ PortLaw t := by
  by_cases hq : c.request = none
  case neg =>
    obtain ⟨⟨k, p⟩, hkp⟩ := Option.ne_none_iff_exists'.1 hq
    obtain ⟨calen, work, hexec, hw⟩ := exec_request_ports hkp
    exact hexec s ▸ h.grantRequest hw
  by_cases ha : ∃ p, c.actsOn p = true
  · obtain ⟨p, acts⟩ := ha
    exact h.byteEvent acts hq
  · obtain ⟨t, ht, others⟩ := exec_leavesOthers hr s
    exact ⟨t, ht, h.of_samePorts fun p => others (.port p) (Bool.eq_false_iff.2 fun acts => ha ⟨p, acts⟩)⟩

/-- Every command but a reset keeps both pacers in order. -/
theorem pacersInOrder.exec {c : Instr} {s : State} (h : pacersInOrder s) (hr : c.resets = false) :
    ∃ t, exec c s = .next t ∧ pacersInOrder t := by
  by_cases hq : c.request = none
  case neg =>
    obtain ⟨⟨k, p⟩, hkp⟩ := Option.ne_none_iff_exists'.1 hq
    obtain ⟨calen, work, hexec, hw⟩ := exec_request_ports hkp
    exact hexec s ▸ h.grantRequest hw
  by_cases hi : c.grantsItem = true
  · exact h.itemGrant hi
  by_cases hl : c.writesLink = true
  · exact h.transaction hl hq
  by_cases hp : ∀ p, c.writesPacer p = false
  · obtain ⟨t, ht, others⟩ := exec_leavesOthers hr s
    exact ⟨t, ht, h.congr fun p => others (.pacer p) (hp p)⟩
  cases c <;> simp only [Instr.request, Instr.grantsItem, Instr.writesLink, Instr.writesPacer, Instr.bringsTruck,
    Instr.endsSweep, Bool.or_false, Bool.or_self, reduceCtorEq, not_true_eq_false, Bool.or_true, implies_true]
    at hi hq hl hp
  case supplyMeasurement v =>
    simp only [Machine.exec, execSupplyMeasurement]
    split
    · refine ⟨_, rfl, ?_⟩
      by_cases same : (s.measured (min v 400)).supply.state = s.supply.state
      · rw [(State.supplyChanged_spec _ _).1 same]
        exact h
      · exact h.of_raised .supply (State.supplyChanged_ports same)
    · exact ⟨s, rfl, h⟩
  case paceTimerExpiry p =>
    simp only [Machine.exec, execPaceTimerExpiry]
    split
    · exact ⟨_, rfl, h.modifyPacer p fun _ ranged driven => ⟨ranged.expire, driven.expire⟩⟩
    · exact ⟨s, rfl, h⟩

/-! ### The attention lines (R182, R185) -/

/-- The law of the attention lines, for each port alike. -/
theorem attentionLaw_iff (s : State) : AttentionLaw s ↔ ∀ p, (s.port p).pacer.ranged p ∧
    ((s.port p).pacer.line = true → (s.port p).pacer.due = true) ∧ (s.power = .running → (s.port p).pacer.settled) := by
  constructor
  · rintro ⟨⟨cabDue, cabCounts, cabInterval, cabTimer⟩, ⟨fleetDue, fleetCounts, fleetInterval, fleetTimer⟩, settled,
      node⟩ p
    cases p
    · exact ⟨⟨(Pacer.counts_iff _).1 cabCounts, cabInterval, cabTimer, fun _ => node⟩, cabDue, fun hp => (settled hp).1⟩
    · exact ⟨⟨(Pacer.counts_iff _).1 fleetCounts, fleetInterval, fleetTimer, nofun⟩, fleetDue, fun hp => (settled hp).2⟩
  · intro h
    have lawful : ∀ p, (s.port p).pacer.lawful := by
      intro p
      obtain ⟨ranged, due, _⟩ := h p
      exact ⟨due, (Pacer.counts_iff _).2 ranged.counts, ranged.interval, ranged.timer⟩
    obtain ⟨cab, _, cabSettled⟩ := h .cab
    obtain ⟨_, _, fleetSettled⟩ := h .fleet
    exact ⟨lawful .cab, lawful .fleet, fun hp => ⟨cabSettled hp, fleetSettled hp⟩, cab.node rfl⟩

theorem AttentionLaw.inOrder {s : State} (h : AttentionLaw s) (hp : s.power = .running) : pacersInOrder s := by
  intro p
  obtain ⟨ranged, due, settled⟩ := (attentionLaw_iff s).1 h p
  exact ⟨ranged, due, settled hp⟩

theorem pacersInOrder.law {s : State} (h : pacersInOrder s) : AttentionLaw s := by
  refine (attentionLaw_iff s).2 fun p => ?_
  obtain ⟨ranged, driven⟩ := h p
  exact ⟨ranged, driven.due, fun _ => driven.settled⟩

/-- A part that does not run moves no pacer, and stays off or held (R165, R166). -/
theorem exec_held_pacers {c : Instr} {s : State} (hr : c.resets = false) (held : s.power ≠ .running) :
    ∃ t, exec c s = .next t ∧ t.power = s.power ∧ ∀ p, (Block.pacer p).kept s t := by
  by_cases hc : c.occursHeld = true
  · obtain ⟨t, ht, others⟩ := exec_leavesOthers hr s
    refine ⟨t, ht, others .power rfl, fun p => others (.pacer p) ?_⟩
    cases c <;> simp_all [Instr.occursHeld, Instr.resets, Instr.mayChange, Instr.writesPacer, Instr.endsSweep,
      Instr.bringsTruck]
  · rw [Bool.not_eq_true] at hc
    exact ⟨s, exec_idle fun ho => held (Instr.running_of_canOccur ho hc), rfl, fun _ => rfl⟩

/-- Every command but a reset keeps the law of the attention lines: on a running part each pacer is in order, and no
other part moves one. -/
theorem AttentionLaw.exec {c : Instr} {s : State} (h : AttentionLaw s) (hr : c.resets = false) :
    ∃ t, exec c s = .next t ∧ AttentionLaw t := by
  by_cases hp : s.power = .running
  · obtain ⟨t, ht, order⟩ := (h.inOrder hp).exec hr
    exact ⟨t, ht, order.law⟩
  · obtain ⟨t, ht, power, kept⟩ := exec_held_pacers hr hp
    refine ⟨t, ht, (attentionLaw_iff t).2 fun p => ?_⟩
    rw [power, show (t.port p).pacer = (s.port p).pacer from kept p]
    exact (attentionLaw_iff s).1 h p

/-! ### The statement -/

/-- While a reset holds the part, its lines are deasserted and its pacers are not settled (R186). -/
theorem AttentionLaw.dropWork {s : State} (h : AttentionLaw s) : AttentionLaw s.dropWork := by
  refine (attentionLaw_iff _).2 fun p => ?_
  obtain ⟨ranged, _, _⟩ := (attentionLaw_iff s).1 h p
  rw [State.dropWork_port]
  exact ⟨⟨ranged.counts, ranged.interval, ranged.timer, ranged.node⟩, nofun, nofun⟩

/-- Settles O49: no command but a reset takes a port past its bounds or drives a line but by R185, and a reset drops the
work or gives the ports their first values. -/
theorem stepsKeepPortsAndAttention : Obligations.StepsKeepPortsAndAttention := by
  intro s t ports attention hs
  refine step_keeps (P := fun u => PortLaw u ∧ AttentionLaw u) (fun _ _ h => h) (fun c u hu => ?_) ⟨ports, attention⟩ hs
  obtain ⟨hports, hattention⟩ := hu
  by_cases hr : c.resets = true
  · have first : ∀ v : State, v.ports = State.reset.ports → PortLaw v ∧ AttentionLaw v := fun v same =>
      ⟨reset_portLaw.of_samePorts (.of_ports same), ((reset_attentionLaw.inOrder rfl).of_ports same).law⟩
    refine exec_reset_keeps (P := fun u => PortLaw u ∧ AttentionLaw u) hr ⟨hports, hattention⟩ (fun _ _ => first _ rfl)
      (fun _ _ h => h) (fun v hv => ?_) fun _ _ => first _ rfl
    obtain ⟨law, lines⟩ := hv
    exact ⟨(portLaw_iff _).2 fun p => v.dropWork_port p ▸ (law.port p).hold, lines.dropWork⟩
  · rw [Bool.not_eq_true] at hr
    obtain ⟨v, hv, law⟩ := hports.exec hr
    obtain ⟨v', hv', lines⟩ := hattention.exec hr
    rw [hv] at hv'
    cases hv'
    exact ⟨v, hv, law, lines⟩

end Sys2Proof.Machine
end

section
/-! Every step keeps a fresh part without recorded work (R177, R190): a grant that leaves the flag has recorded nothing,
and only a truck dump, which is counted, gives the tracker a truck-dump reference (R35). -/

namespace Sys2Proof.Machine

/-! ### The fresh flag (R177) -/

/-- What the fresh flag looks at is as it was. -/
structure nothingRecorded (s t : State) : Prop where
  bays : t.bays.bay = s.bays.bay
  counters : t.shift.counters = s.shift.counters
  records : t.log.records = s.log.records

/-- A grant after which the part is fresh has recorded nothing. -/
theorem State.settle_nothingRecorded {pre s : State} (h : (pre.settle s).arb.fresh = true) : nothingRecorded pre s := by
  rw [State.settle_arb] at h
  simp only [Bool.and_eq_true, Bool.not_eq_true', recordsChanged, Bool.or_eq_false_iff, decide_eq_false_iff_not,
    ne_eq, Decidable.not_not] at h
  obtain ⟨_, ⟨bays, counters⟩, records⟩ := h
  exact ⟨bays.symm, counters.symm, records.symm⟩

/-- A command after which the part is fresh found it fresh, and has recorded nothing. -/
theorem exec_nothingRecorded {c : Instr} (hr : c.resets = false) (s : State) : ∃ t, exec c s = .next t ∧
    (t.arb.fresh = true → s.arb.fresh = true ∧ nothingRecorded s t) := by
  have recorded : ∃ t, exec c s = .next t ∧ (t.arb.fresh = true → nothingRecorded s t) := by
    by_cases hc : c.clearsFresh = false
    · obtain ⟨t, ht, others⟩ := exec_leavesOthers hr s
      exact ⟨t, ht, fun _ => ⟨others .bayRecords hc, others .counters hc, others .logRecords hc⟩⟩
    have same : s.arb.fresh = true → nothingRecorded s s := fun _ => ⟨rfl, rfl, rfl⟩
    by_cases hq : c.request = none
    case neg =>
      obtain ⟨⟨k, p⟩, hkp⟩ := Option.ne_none_iff_exists'.1 hq
      obtain ⟨calen, work, hexec, _⟩ := exec_of_request hkp
      have ended : ∀ (u : State) (a : Answer), ((s.settle u).answer p a).arb.fresh = true →
          nothingRecorded s ((s.settle u).answer p a) := by
        intro u a fresh
        obtain ⟨bays, counters, records⟩ := State.settle_nothingRecorded (pre := s) (s := u) fresh
        exact ⟨by simpa using bays, by simpa using counters, by simpa using records⟩
      exact hexec s ▸ grantRequest_keeps same (fun _ _ _ _ => ended _ _) fun _ _ _ _ _ _ => ended _ _
    · have hi : c.grantsItem = true := by
        cases c <;> simp_all [Instr.clearsFresh, Instr.request, Instr.grantsItem, Instr.bringsTruck]
      obtain ⟨work, hexec, _⟩ := exec_of_grantsItem hi
      refine hexec s ▸ grantItem_keeps same fun i f _ _ _ fresh => ?_
      obtain ⟨bays, counters, records⟩ := State.settle_nothingRecorded fresh
      exact ⟨by simpa using bays, by simpa using counters, by simpa using records⟩
  obtain ⟨t, ht, kept⟩ := recorded
  exact ⟨t, ht, fun fresh => ⟨(leavesOthers.of_exec hr ht) .staleness rfl fresh, kept fresh⟩⟩

/-! ### The truck-dump reference (R35) -/

theorem State.dump_dumpRef (s : State) (r : SweepRecord) : (s.dump r).tracker.dumpRef = s.tracker.dumpRef := by
  unfold State.dump
  rw [State.discardCapture_eq]
  dsimp only
  split <;> [(split <;> rfl); rfl]

theorem State.endCaptureLift_dumpRef (s : State) : s.endCaptureLift.tracker.dumpRef = s.tracker.dumpRef := by
  unfold State.endCaptureLift
  split <;> rfl

theorem State.endWindow_dumpRef (s : State) : s.endWindow.tracker.dumpRef = s.tracker.dumpRef := by
  unfold State.endWindow State.endZeroing
  split
  · split <;> rfl
  · rw [State.enterCarry_tracker]

theorem State.endCheck_dumpRef (s : State) : s.endCheck.tracker.dumpRef = s.tracker.dumpRef := by
  unfold State.endCheck
  dsimp only
  split <;> [(split <;> rfl); rfl]

theorem State.boomTransition_dumpRef (s : State) (boom : Int) :
    (s.boomTransition boom).tracker.dumpRef = s.tracker.dumpRef := by
  unfold State.boomTransition
  dsimp only
  split
  case h_1 | h_2 => split <;> rfl
  case h_3 =>
    split
    · rfl
    · split <;> [exact congrArg (fun u => u.tracker.dumpRef) s.discardCapture_eq; rfl]
  case h_4 => (repeat' split) <;> [rfl; rfl; rfl; exact s.endWindow_dumpRef]
  case h_5 => split <;> [rw [State.startReweigh_tracker]; rfl]
  case h_6 => (repeat' split) <;> rfl
  case h_7 => (repeat' split) <;> [exact s.endCheck_dumpRef; rfl; rfl]

/-- A record changes no truck-dump reference. -/
theorem State.changeCycle_dumpRef (s : State) (r : SweepRecord) :
    (s.changeCycle r).tracker.dumpRef = s.tracker.dumpRef := by
  unfold State.changeCycle
  dsimp only
  split
  · split <;> [rfl; rw [State.forcedIdle_tracker]]
  split
  · split <;> [rfl; exact s.dump_dumpRef r]
  split
  · exact s.endCaptureLift_dumpRef
  · exact s.boomTransition_dumpRef _

theorem State.endSweep_dumpRef (s : State) (sw : Sweep) : (s.endSweep sw).tracker.dumpRef = s.tracker.dumpRef := by
  have taken : ∀ (t : State) (r : SweepRecord), (t.takeRecord r).tracker.dumpRef = t.tracker.dumpRef := by
    intro t r
    rcases t.takeRecord_cases r with ⟨_, h⟩ | ⟨_, h⟩ | ⟨_, h⟩ <;> rw [h] <;>
      simp [State.takeSteps_tracker, State.abortCapture_tracker, State.changeCycle_dumpRef]
  obtain ⟨k, n, ended⟩ := s.endSweep_eq sw
  rw [ended]
  exact taken s.sweepOver _

/-- The tracker holds no truck-dump reference. -/
abbrev unreferenced (s : State) : Prop := s.tracker.dumpRef = none

/-- A close may renumber the load that a reference names, and makes none (R101). -/
theorem cycleSteady.unreferenced {s t : State} (h : cycleSteady s t) (hs : unreferenced s) : unreferenced t := by
  obtain ⟨_, index, _⟩ := h
  rw [hs] at index
  simpa using index

theorem unreferenced.grantRequest {s : State} (h : unreferenced s) {k : ReqKind} {p : Port} {calen : Option Bool}
    {work : List Byte → State → State × Reply}
    (hw : ∀ payload u, unreferenced u → unreferenced (work payload u).1) :
    ∃ t, grantRequest k p calen work s = .next t ∧ unreferenced t := by
  have asked : unreferenced ((s.dropRequest p).readCalen calen) := by simpa [unreferenced] using h
  refine grantRequest_keeps h (fun _ _ _ _ => ?_) fun r _ _ _ _ _ => ?_
  · simpa [unreferenced] using h
  · simpa [unreferenced] using hw r.payload _ asked

theorem unreferenced.tagEvent {s : State} (h : unreferenced s) :
    ∃ t, exec .tagEvent s = .next t ∧ unreferenced t := by
  refine grantItem_keeps (work := tagEventWork) h ?_
  rintro ⟨⟩ _ _ _ ⟨⟩
  simpa [unreferenced] using (State.tagEvent_steady _ _).unreferenced (s := s.dropItem) h

theorem startCaptureWork_dumpRef (payload : List Byte) (s : State) :
    (startCaptureWork payload s).1.tracker.dumpRef = s.tracker.dumpRef := by
  unfold startCaptureWork
  (repeat' split) <;> [rfl; rfl; rfl; rfl; skip]
  simp only [State.modifyTracker, Tracker.dropHeld_eq]
  rfl

theorem State.supplyChanged_dumpRef (s : State) (pre : SupplyState) :
    (s.supplyChanged pre).tracker.dumpRef = s.tracker.dumpRef := by
  unfold State.supplyChanged
  split
  · rfl
  · split
    · rw [State.supplyLow_eq, State.raise_tracker]
    · rw [State.raise_tracker]

/-- Every command but a reset and a truck dump leaves a tracker without a reference so. -/
theorem unreferenced.exec {c : Instr} {s : State} (h : unreferenced s) (hr : c.resets = false)
    (hd : c ≠ .truckDump) : ∃ t, exec c s = .next t ∧ unreferenced t := by
  by_cases hw : c.writesTracker = false
  · obtain ⟨t, ht, others⟩ := exec_leavesOthers hr s
    exact ⟨t, ht, (congrArg Tracker.dumpRef (others .tracker hw)).trans h⟩
  by_cases he : c.endsSweep = true
  · have link : c.writesLink = true := Bool.or_eq_true_iff.2 (.inl he)
    have grantsNone : c.request = none := by
      cases c <;> simp only [Instr.endsSweep, Bool.false_eq_true] at he <;> rfl
    obtain ⟨u, hu, hx⟩ := exec_transaction_cases link grantsNone s
    have served : unreferenced u := (congrArg Tracker.dumpRef (hu.kept (b := .tracker) (by simp))).trans h
    obtain hx | ⟨_, sw, hx⟩ := hx
    · exact ⟨u, hx, served⟩
    · exact ⟨_, hx, (u.endSweep_dumpRef sw).trans served⟩
  cases c <;> simp only [Instr.writesTracker, Instr.writesWindow, Instr.bringsTruck, Instr.endsSweep, Bool.or_false,
    Bool.or_self, not_true_eq_false, ne_eq, Bool.or_true] at hw he hd
  case tagEvent => exact h.tagEvent
  case assignTruck => exact h.grantRequest fun payload u => (assignTruckWork_steady payload u).unreferenced
  case closeLoad p => exact h.grantRequest fun payload u => (closeLoadWork_steady p payload u).unreferenced
  case zeroBucket =>
    refine h.grantRequest fun payload u hu => ?_
    unfold zeroBucketWork
    (repeat' split) <;> exact hu
  case cancelZero => exact h.grantRequest fun _ _ hu => hu
  case startCapture => exact h.grantRequest fun payload u hu => (startCaptureWork_dumpRef payload u).trans hu
  case abortCapture =>
    refine h.grantRequest fun payload u hu => ?_
    unfold abortCaptureWork
    split <;> exact hu
  case supplyMeasurement v =>
    simp only [Machine.exec, execSupplyMeasurement]
    split
    · exact ⟨_, rfl, (State.supplyChanged_dumpRef _ _).trans h⟩
    · exact ⟨s, rfl, h⟩
  case clockTick =>
    simp only [Machine.exec, execClockTick, Tracker.tick_eq]
    split <;> exact ⟨_, rfl, h⟩

/-- A truck dump that is granted is counted (R35, R153). -/
theorem exec_truckDump_counters (s : State) : ∃ t, exec .truckDump s = .next t ∧
    (t = s ∨ ∃ w time, t.shift.counters = s.shift.counters.truckDump w time) := by
  refine grantItem_keeps (work := truckDumpWork) (.inl rfl) ?_
  rintro (⟨w, time, choice, dump⟩ | _) _ _ _ ⟨⟩
  refine .inr ⟨w, time, ?_⟩
  rw [State.settle_shift]
  change (s.dropItem.truckDump w time choice dump).shift.counters = _
  rw [State.truckDump_eq, State.raise_shift]
  rfl

/-! ### The statement -/

/-- A fresh part that has recorded nothing, and whose tracker has not taken a reference. -/
theorem FreshLaw.of_nothingRecorded {s t : State} (h : FreshLaw s) (flag : t.arb.fresh = true → s.arb.fresh = true)
    (same : t.arb.fresh = true → nothingRecorded s t) (reference : unreferenced s → unreferenced t) : FreshLaw t := by
  intro fresh
  obtain ⟨left, leftPasses, right, rightPasses, records, counters, dumpRef⟩ := h (flag fresh)
  obtain ⟨bays, sameCounters, sameRecords⟩ := same fresh
  rw [bays, sameCounters, sameRecords]
  exact ⟨left, leftPasses, right, rightPasses, records, counters, reference dumpRef⟩

/-- A truck dump makes a fresh part stale: it moves the cycle count off 0 (R153, R177). -/
theorem FreshLaw.truckDump {s : State} (h : FreshLaw s) : ∃ t, exec .truckDump s = .next t ∧ FreshLaw t := by
  obtain ⟨t, ht, counted⟩ := exec_truckDump_counters s
  obtain ⟨t', ht', kept⟩ := exec_nothingRecorded (c := .truckDump) rfl s
  rw [ht] at ht'
  cases ht'
  refine ⟨t, ht, ?_⟩
  obtain rfl | ⟨w, time, counters⟩ := counted
  · exact h
  · intro fresh
    obtain ⟨before, recorded⟩ := kept fresh
    obtain ⟨_, _, _, _, _, zero, _⟩ := h before
    rw [recorded.counters, zero] at counters
    have cycles := congrArg Counters.cycles counters
    simp [Counters.zero, Counters.truckDump, satAdd, max32] at cycles

/-- Settles O55: a reset aside, a command after which the part is fresh has recorded nothing; a truck dump is always
counted, and nothing else makes a reference. -/
theorem stepsKeepFreshness : Obligations.StepsKeepFreshness := by
  intro s t h hs
  refine step_keeps (P := FreshLaw) (fun _ _ hu => hu) (fun c u hu => ?_) h hs
  by_cases hr : c.resets = true
  · exact exec_reset_keeps (P := FreshLaw) hr hu (fun _ _ => reset_freshLaw) (fun _ _ hv => hv) (fun _ hv => hv)
      fun _ _ _ => ⟨rfl, rfl, rfl, rfl, rfl, rfl, rfl⟩
  rw [Bool.not_eq_true] at hr
  by_cases hd : c = .truckDump
  · exact hd ▸ hu.truckDump
  obtain ⟨v, hv, kept⟩ := exec_nothingRecorded hr u
  refine ⟨v, hv, hu.of_nothingRecorded (fun fresh => (kept fresh).1) (fun fresh => (kept fresh).2) fun none => ?_⟩
  obtain ⟨v', hv', same⟩ := none.exec hr hd
  rw [hv] at hv'
  cases hv'
  exact same

end Sys2Proof.Machine
end

section
/-! The receivers and senders of the ports (R169 to R174), and the pace timer's expiry (R185). -/

namespace Sys2Proof.Machine

/-! ### A frame's end (R170, R171) -/

/-- A change of a port, as the statements write it. -/
theorem State.modifyPort_eq (s : State) (p : Port) (f : PortBlock → PortBlock) :
    s.modifyPort p f = { s with ports := s.ports.modify p fun _ => f (s.port p) } := by cases p <;> rfl

theorem PortBlock.breakFrame_assembling {b : PortBlock} {g : Nat} (h : b.assembler = .assembling g) :
    b.breakFrame = { b with assembler := .hunting, discarded := min (b.discarded + 1) 65535 } := by
  unfold PortBlock.breakFrame
  rw [h]
  rfl

theorem PortBlock.breakFrame_hunting {b : PortBlock} (h : b.assembler = .hunting) : b.breakFrame = b :=
  PortBlock.breakFrame_idle fun g hg => by rw [h] at hg; cases hg

theorem PortBlock.breakAt_assembling {b : PortBlock} {g k : Nat} (h : b.assembler = .assembling g) (hg : g ≤ k)
    (p : Port) : b.breakAt p k = (b.receive p (k - g)).breakFrame := by
  unfold PortBlock.breakAt
  rw [h]
  exact if_pos hg

theorem PortBlock.complete_assembling {b : PortBlock} {f : Frame} {g : Nat} (h : b.assembler = .assembling g)
    (hg : g ≤ f.payload.length + 6) (p : Port) : b.complete p f =
      ({ b.receive p (f.payload.length + 6 - g) with assembler := .hunting } : PortBlock).arrive f := by
  unfold PortBlock.complete
  rw [h]
  exact if_pos hg

/-! ### The arrival checks (R173) -/

theorem PortBlock.refuseArrival_eq (b : PortBlock) (a : Answer) : b.refuseArrival a = { b with
    answers := if b.answers.length < 4 then b.answers ++ [a] else b.answers
    discarded := min (b.discarded + 1) 65535 } := by
  unfold PortBlock.refuseArrival
  split <;> rfl

/-- The arrival checks, in their order. -/
theorem PortBlock.arrive_spec (b : PortBlock) (f : Frame) :
    (f.checkAgrees = false → b.arrive f = b.refuseArrival ⟨f.tag, ⟨.frame, [0]⟩⟩) ∧
    (f.checkAgrees = true → reqKindOf f.kind = none →
      b.arrive f = b.refuseArrival ⟨f.tag, ⟨.unknown, [f.kind]⟩⟩) ∧
    (∀ k, f.checkAgrees = true → reqKindOf f.kind = some k → 4 ≤ b.queue.length →
      b.arrive f = b.refuseArrival ⟨f.tag, ⟨.busy, [1]⟩⟩) ∧
    (∀ k, f.checkAgrees = true → reqKindOf f.kind = some k → b.queue.length < 4 →
      b.arrive f = { b with queue := b.queue ++ [⟨f.tag, k, f.payload⟩] }) := by
  unfold PortBlock.arrive
  refine ⟨fun check => ?_, fun check kind => ?_, fun k check kind full => ?_, fun k check kind free => ?_⟩ <;>
    rw [check]
  · rfl
  · simp [kind, Reply.refuse]
  · simp [kind, Nat.not_lt.2 full, Reply.busy, Reply.refuse]
  · simp [kind, free]

/-- A frame of a good length that ends behind an assembling receiver (R170, R173). -/
theorem exec_frameArrival {s : State} {p : Port} {f : Frame} {g : Nat} (moves : portMoves s p)
    (ha : (s.port p).assembler = .assembling g) (short : f.payload.length ≤ 480) (hg : g ≤ f.payload.length + 6) :
    exec (.frameArrival p f) s = .next { s with ports := s.ports.modify p fun _ =>
      ({ (s.port p).receive p (f.payload.length + 6 - g) with assembler := .hunting } : PortBlock).arrive f } := by
  simp only [exec, execFrameArrival, if_pos ((s.portOpen_iff p).2 moves), if_pos short, State.modifyPort_eq,
    PortBlock.complete_assembling ha hg]

/-- Settles O26: the bytes that remain are received, and each outcome of the arrival checks is its clause. -/
theorem frameArrivalIsChecked : Obligations.FrameArrivalIsChecked := by
  intro s p f g running period ha short hg
  refine ⟨_, PortBlock.receive_receives _ _ _, ?_⟩
  intro b put refused
  have arrives : exec (.frameArrival p f) s = .next (put (b.arrive f)) :=
    exec_frameArrival ⟨running, period⟩ ha short hg
  have refuses : ∀ a, b.refuseArrival a = refused a := b.refuseArrival_eq
  obtain ⟨frame, unknown, busy, queued⟩ := b.arrive_spec f
  refine ⟨fun check => ?_, fun check kind => ?_, fun k check kind full => ?_, fun k check kind free => ?_⟩
  · rw [arrives, frame check, refuses]
  · rw [arrives, unknown check kind, refuses]
  · rw [arrives, busy k check kind full, refuses]
  · rw [arrives, queued k check kind free]

/-! ### The bytes a port sends (R171, R172, R174) -/

/-- What is left of the oldest answer, sent to its last check byte. -/
theorem PortBlock.send_oldest {b : PortBlock} {a : Answer} {rest : List Answer} (waits : b.answers = a :: rest)
    (hs : b.sent < a.bytes.length) (p : Port) : b.send p (a.bytes.length - b.sent) =
      { b with answers := rest, sent := 0, out := a.bytes.drop b.sent } := by
  have unsent : b.unsent = a.bytes.drop b.sent ++ rest.flatMap Answer.bytes := by
    unfold PortBlock.unsent
    rw [waits, List.flatMap_cons, List.drop_append_of_le_length hs.le]
  have length : (a.bytes.drop b.sent).length = a.bytes.length - b.sent := List.length_drop ..
  have out : b.bytesOut p (a.bytes.length - b.sent) = a.bytes.drop b.sent := by
    unfold PortBlock.bytesOut
    rw [unsent, List.take_left' length, List.length_append, length, Nat.sub_add_eq, Nat.sub_self, Nat.zero_sub]
    cases p <;> exact List.append_nil _
  have left : leftAfter (b.sent + (a.bytes.length - b.sent)) b.answers = (rest, 0) := by
    rw [Nat.add_sub_cancel' hs.le, waits, a.bytes_length, leftAfter_oldest]
  unfold PortBlock.send
  rw [left, out]

theorem exec_answerSent_cab_hunting {s : State} (n : Nat) (moves : portMoves s .cab)
    (h : (s.port .cab).assembler = .hunting) : exec (.answerSent ⟨.cab, n⟩) s =
      .next { s with ports := s.ports.modify .cab fun _ => (s.port .cab).send .cab n } := by
  simp only [exec, execAnswerSent, if_pos ((s.portOpen_iff _).2 moves), h, State.modifyPort_eq]

theorem exec_answerSent_cab_assembling {s : State} {n g : Nat} (moves : portMoves s .cab)
    (h : (s.port .cab).assembler = .assembling g) (room : g + n ≤ 486) : exec (.answerSent ⟨.cab, n⟩) s =
      .next { s with ports := s.ports.modify .cab fun _ =>
        { (s.port .cab).send .cab n with assembler := .assembling (g + n) } } := by
  simp only [exec, execAnswerSent, if_pos ((s.portOpen_iff _).2 moves), h, if_pos room, State.modifyPort_eq]

theorem exec_answerSent_fleet {s : State} {n : Nat} (moves : portMoves s .fleet)
    (room : n ≤ (s.port .fleet).unsent.length) : exec (.answerSent ⟨.fleet, n⟩) s =
      .next { s with ports := s.ports.modify .fleet fun _ => (s.port .fleet).send .fleet n } := by
  simp only [exec, execAnswerSent, if_pos ((s.portOpen_iff _).2 moves), if_pos room, State.modifyPort_eq]

/-- The oldest answer goes out from where it stands to its last check byte, on either port. -/
theorem exec_answerSent_oldest {s : State} {p : Port} {a : Answer} {rest : List Answer} (moves : portMoves s p)
    (hunts : p = .cab → (s.port .cab).assembler = .hunting) (waits : (s.port p).answers = a :: rest)
    (hs : (s.port p).sent < a.bytes.length) : exec (.answerSent ⟨p, a.bytes.length - (s.port p).sent⟩) s =
      .next { s with ports := s.ports.modify p fun _ =>
        { s.port p with answers := rest, sent := 0, out := a.bytes.drop (s.port p).sent } } := by
  rw [← PortBlock.send_oldest waits hs p]
  cases p with
  | cab => exact exec_answerSent_cab_hunting _ moves (hunts rfl)
  | fleet =>
    refine exec_answerSent_fleet moves ?_
    unfold PortBlock.unsent
    rw [waits, List.length_drop, List.flatMap_cons, List.length_append]
    exact Nat.sub_le_sub_right (Nat.le_add_right _ _) _

/-! ### Partial frames that begin and end (R170 to R172) -/

theorem exec_syncByteReceived {s : State} {p : Port} (moves : portMoves s p)
    (h : (s.port p).assembler = .hunting) : exec (.syncByteReceived p) s =
      .next { s with ports := s.ports.modify p fun _ =>
        { (s.port p).receive p 1 with assembler := .assembling 0 } } := by
  simp only [exec, execSyncByteReceived, h, if_pos ((s.portOpen_iff p).2 moves), State.modifyPort_eq]

theorem exec_frameDiscard_length {s : State} {p : Port} {n : Word16} (moves : portMoves s p)
    (wf : (DiscardCause.length n).wf p = true) : exec (.frameDiscard p (.length n)) s =
      .next { s with ports := s.ports.modify p fun _ => (s.port p).breakAt p 2 } := by
  simp only [exec, execFrameDiscard, if_pos (And.intro ((s.portOpen_iff p).2 moves) wf), State.modifyPort_eq]

theorem exec_frameDiscard_brokenByte {s : State} (moves : portMoves s .fleet) :
    exec (.frameDiscard .fleet .brokenByte) s =
      .next { s with ports := s.ports.modify .fleet fun _ => (s.port .fleet).breakFrame } := by
  have wf : DiscardCause.brokenByte.wf .fleet = true := rfl
  simp only [exec, execFrameDiscard, if_pos (And.intro ((s.portOpen_iff .fleet).2 moves) wf), State.modifyPort_eq]

theorem exec_frameGapTimeout {s : State} (moves : portMoves s .fleet) : exec .frameGapTimeout s =
    .next { s with ports := s.ports.modify .fleet fun _ => (s.port .fleet).breakFrame } := by
  simp only [exec, execFrameGapTimeout, if_pos ((s.portOpen_iff .fleet).2 moves), State.modifyPort_eq]

theorem exec_frameArrival_long {s : State} {p : Port} {f : Frame} (moves : portMoves s p)
    (long : 480 < f.payload.length) : exec (.frameArrival p f) s =
      .next { s with ports := s.ports.modify p fun _ => (s.port p).breakAt p 2 } := by
  simp only [exec, execFrameArrival, if_pos ((s.portOpen_iff p).2 moves), if_neg (Nat.not_le.2 long),
    State.modifyPort_eq]

/-- A length out of range ends the frame where its two bytes are gathered. -/
theorem PortBlock.breakAt_length {b : PortBlock} {g : Nat} (h : b.assembler = .assembling g) (hg : g ≤ 2) (p : Port) :
    b.breakAt p 2 = { b.receive p (2 - g) with
      assembler := .hunting, discarded := min ((b.receive p (2 - g)).discarded + 1) 65535 } := by
  rw [PortBlock.breakAt_assembling h hg, PortBlock.breakFrame_assembling ((b.receive_assembler p _).trans h)]

/-- The rise of CAB_CS_N within a period ends the frame and the period. -/
theorem exec_cabCsNRise {s : State} (moves : portMoves s .cab) : exec .cabCsNRise s =
    .next { s with
      ports := s.ports.modify .cab fun _ => (s.port .cab).breakFrame, pins := { s.pins with csLow := false } } := by
  simp only [exec, execCabCsNRise, if_pos ((s.portOpen_iff .cab).2 moves), State.modifyPort_eq]

/-- CAB_MISO is driven within a period of a running part alone. -/
theorem State.cabMiso_eq (s : State) : s.cabMiso = if s.power = .running ∧ s.pins.csLow = true then
    some ((s.port .cab).unsent.headD 0x00) else none := by
  have opens : s.portOpen .cab = true ↔ s.power = .running ∧ s.pins.csLow = true := by
    rw [s.portOpen_iff]
    exact ⟨fun ⟨running, period⟩ => ⟨running, period rfl⟩, fun ⟨running, period⟩ => ⟨running, fun _ => period⟩⟩
  unfold State.cabMiso
  simp only [opens]

/-- Settles O27: the equation of each event, on a port that moves bytes. -/
theorem receiversAndSendersMove : Obligations.ReceiversAndSendersMove := by
  unfold Obligations.ReceiversAndSendersMove
  intro put broken unsent
  have fleet : ∀ {s : State}, s.power = .running → portMoves s .fleet := fun running => ⟨running, nofun⟩
  refine ⟨fun s p running period => ⟨fun hunts => ?sync, fun g n assembles early wf => ?length,
      fun g f assembles early long => ?long⟩,
    fun s n running period => ⟨fun hunts => ?cabHunting, fun g assembles room => ?cabAssembling⟩,
    fun s n running room => ?fleetSends, fun s p a rest running period hunts waits sent => ?oldest,
    fun s => s.cabMiso_eq, fun s g running assembles => ⟨?broken, ?gap⟩, fun s => rfl,
    fun s running period => ⟨fun g assembles => ?rise, fun hunts => ?riseHunting⟩⟩
  case sync => exact ⟨_, PortBlock.receive_receives _ _ _, exec_syncByteReceived ⟨running, period⟩ hunts⟩
  case length =>
    refine ⟨_, PortBlock.receive_receives _ _ _, ?_⟩
    rw [exec_frameDiscard_length ⟨running, period⟩ wf, PortBlock.breakAt_length assembles early]
  case long =>
    refine ⟨_, PortBlock.receive_receives _ _ _, ?_⟩
    rw [exec_frameArrival_long ⟨running, period⟩ long, PortBlock.breakAt_length assembles early]
  case cabHunting =>
    exact ⟨_, PortBlock.send_sends _ _ _, exec_answerSent_cab_hunting n ⟨running, fun _ => period⟩ hunts⟩
  case cabAssembling =>
    exact ⟨_, PortBlock.send_sends _ _ _, exec_answerSent_cab_assembling ⟨running, fun _ => period⟩ assembles room⟩
  case fleetSends => exact ⟨_, PortBlock.send_sends _ _ _, exec_answerSent_fleet (fleet running) room⟩
  case oldest => exact exec_answerSent_oldest ⟨running, period⟩ hunts waits sent
  case broken => rw [exec_frameDiscard_brokenByte (fleet running), PortBlock.breakFrame_assembling assembles]
  case gap => rw [exec_frameGapTimeout (fleet running), PortBlock.breakFrame_assembling assembles]
  case rise =>
    rw [exec_cabCsNRise ⟨running, fun _ => period⟩, PortBlock.breakFrame_assembling assembles]
  case riseHunting =>
    rw [exec_cabCsNRise ⟨running, fun _ => period⟩, PortBlock.breakFrame_hunting hunts]
    rfl

/-! ### The pace timer (R185) -/

/-- The statements' words for a pacer that is due. -/
theorem Pacer.due_iff_mem (pc : Pacer) :
    pc.due = true ↔ ∃ k ∈ NoticeKind.all, pc.enables.getLsbD k.num = true ∧ 0 < pc.count k := by
  rw [pc.due_iff]
  exact exists_congr fun k => (and_iff_right k.mem_all).symm

/-- The expiry of a pacer whose timer runs. -/
theorem Pacer.expire_running {pc : Pacer} {n : Nat} (h : pc.timer = some n) :
    pc.expire = if !pc.line && pc.due then pc.assert else { pc with timer := none } := by
  unfold Pacer.expire
  rw [h]
  rfl

/-- Settles O28: the line and whether the pacer is due decide the expiry. -/
theorem paceTimerExpiryDrivesLine : Obligations.PaceTimerExpiryDrivesLine := by
  intro s p n running runs pc put pending
  have expires : exec (.paceTimerExpiry p) s = .next (put pc.expire) := by
    simp only [exec, execPaceTimerExpiry, if_pos running]
    cases p <;> rfl
  have due : pc.due = true ↔ pending := pc.due_iff_mem
  rw [expires, Pacer.expire_running runs]
  refine ⟨fun line => ?_, fun line pend => ?_, fun line idle => ?_⟩
  · rw [line]
    rfl
  · rw [line, due.2 pend]
    rfl
  · rw [line, Bool.eq_false_iff.2 (mt due.1 idle)]
    rfl

end Sys2Proof.Machine
end

section
/-! The checks that come before a request's work (R176, R178), and SET_NOTICES (R184, R185). -/

namespace Sys2Proof.Machine

/-! ### The class and the length (R176) -/

/-- A granted request of an allowed class and a wrong length changes nothing and is answered RANGE, whatever its
work. -/
theorem OffersRequest.wrongLength {s : State} {p : Port} {r : Request} {rest : List Request} {k : ReqKind}
    (h : OffersRequest s p r rest) (hk : r.kind = k) (calen : Option Bool)
    (work : List Byte → State → State × Reply) (hd : denial k p ((s.granted p rest).readCalen calen).pins.calen = none)
    (hl : lengthFits k r.payload.length = false) :
    grantRequest k p calen work s = .next (((s.granted p rest).readCalen calen).answered p r .range [0]) := by
  have refused : ((s.granted p rest).readCalen calen).carryOut k p r.payload work =
      ((s.granted p rest).readCalen calen, .range 0) := by
    rw [State.carryOut, hd]
    exact if_neg (Bool.eq_false_iff.1 hl)
  have settled : s.settle ((s.granted p rest).readCalen calen) = (s.granted p rest).readCalen calen := by
    refine State.settle_same ?_ ?_ ?_ <;> cases calen <;> rfl
  rw [h.grant hk, refused, settled]
  rfl

theorem denial_cab {k : ReqKind} (h : k.class = .fleet) (calen : Bool) : denial k .cab calen = some 1 := by
  simp [denial, h]

theorem denial_unstrapped {k : ReqKind} (h : k.class = .calibrate) (p : Port) : denial k p false = some 2 := by
  simp [denial, h]

theorem denial_eq_none {k : ReqKind} {p : Port} {calen : Bool} (port : ¬(k.class = .fleet ∧ p = .cab))
    (strap : ¬(k.class = .calibrate ∧ calen = false)) : denial k p calen = none := by
  cases hk : k.class <;> simp_all [denial]

/-- The commands of a kind of request that read no strap, and whose class does not ask for it. -/
def Unstrapped (c : Port → Instr) (k : ReqKind) : Prop :=
  k.class ≠ .calibrate ∧ ∀ p, ∃ work, ∀ s, exec (c p) s = grantRequest k p none work s

/-- The commands of a kind of request that read the strap, and that either port may issue. -/
def Strapped (c : Port → Bool → Instr) (k : ReqKind) : Prop :=
  k.class ≠ .fleet ∧ ∀ p calen, ∃ work, ∀ s, exec (c p calen) s = grantRequest k p (some calen) work s

theorem Unstrapped.checked {c : Port → Instr} {k : ReqKind} (h : Unstrapped c k) {s : State} {p : Port} {r : Request}
    {rest : List Request} (ho : OffersRequest s p r rest) (hk : r.kind = k) :
    (k.class = .fleet → p = .cab → exec (c p) s = .next ((s.granted p rest).answered p r .denied [1])) ∧
    (¬(k.class = .fleet ∧ p = .cab) → lengthFits k r.payload.length = false →
      exec (c p) s = .next ((s.granted p rest).answered p r .range [0])) := by
  obtain ⟨unasked, grants⟩ := h
  obtain ⟨work, runs⟩ := grants p
  rw [runs]
  refine ⟨fun fleet cab => ?_, fun allowed wrong => ?_⟩
  · subst cab
    exact ho.denied hk none work (denial_cab fleet _)
  · exact ho.wrongLength hk none work (denial_eq_none allowed fun strap => unasked strap.1) wrong

theorem Strapped.checked {c : Port → Bool → Instr} {k : ReqKind} (h : Strapped c k) {s : State} {p : Port}
    {calen : Bool} {r : Request} {rest : List Request} (ho : OffersRequest s p r rest) (hk : r.kind = k) :
    (k.class = .calibrate → calen = false →
      exec (c p calen) s = .next (((s.granted p rest).strapped calen).answered p r .denied [2])) ∧
    (¬(k.class = .calibrate ∧ calen = false) → lengthFits k r.payload.length = false →
      exec (c p calen) s = .next (((s.granted p rest).strapped calen).answered p r .range [0])) := by
  obtain ⟨either, grants⟩ := h
  obtain ⟨work, runs⟩ := grants p calen
  rw [runs]
  refine ⟨fun calibrate low => ?_, fun allowed wrong => ?_⟩
  · subst low
    exact ho.denied hk (some false) work (denial_unstrapped calibrate _)
  · exact ho.wrongLength hk (some calen) work (denial_eq_none (fun port => either port.1) allowed) wrong

/-- Settles O29: every command of the two lists grants its kind, and the grant checks the class and the length. -/
theorem classAndLengthAreCheckedFirst : Obligations.ClassAndLengthAreCheckedFirst := by
  unfold Obligations.ClassAndLengthAreCheckedFirst
  intro plain plainKinds strapped strappedKinds
  have unstrapped : ∀ x ∈ plain.zip plainKinds, Unstrapped x.1 x.2 := by
    intro x listed
    fin_cases listed <;> exact ⟨nofun, fun _ => ⟨_, fun _ => rfl⟩⟩
  have strap : ∀ x ∈ strapped.zip strappedKinds, Strapped x.1 x.2 := by
    intro x listed
    fin_cases listed <;> exact ⟨nofun, fun _ _ => ⟨_, fun _ => rfl⟩⟩
  exact ⟨fun x listed s p r rest ho hk => (unstrapped x listed).checked ho hk,
    fun x listed s p calen r rest ho hk => (strap x listed).checked ho hk⟩

/-! ### SET_NOTICES (R184, R185) -/

/-- The last row of R185, on a pacer with the new set and interval in place. -/
theorem Pacer.configure_spec {pc fresh : Pacer} {enables : BitVec 12} {interval : Nat}
    (h : fresh = { pc with enables := enables, interval := min interval 200 }) :
    (fresh.line = true → fresh.due = true → pc.configure enables interval = fresh) ∧
    (fresh.line = true → fresh.due = false → pc.configure enables interval = { fresh with line := false }) ∧
    (fresh.line = false → fresh.timer = none → fresh.due = true → pc.configure enables interval = fresh.assert) ∧
    (fresh.line = false → fresh.timer ≠ none ∨ fresh.due = false → pc.configure enables interval = fresh) := by
  have eq : pc.configure enables interval =
      if fresh.line then if fresh.due then fresh else { fresh with line := false }
      else if fresh.timer.isNone && fresh.due then fresh.assert else fresh := by subst h; rfl
  rw [eq]
  refine ⟨fun on due => ?_, fun on idle => ?_, fun off stopped due => ?_, fun off stays => ?_⟩
  · rw [on, due]; rfl
  · rw [on, idle]; rfl
  · rw [off, stopped, due]; rfl
  · rw [off]
    refine (if_neg Bool.false_ne_true).trans (if_neg ?_)
    simpa [Classical.or_iff_not_imp_left] using stays

/-- The set that SET_NOTICES puts in place holds the kinds whose bits are sent. -/
theorem getLsbD_kind (set : Nat) (k : NoticeKind) : (BitVec.ofNat 12 set).getLsbD k.num = set.testBit k.num := by
  rw [BitVec.getLsbD_ofNat, decide_eq_true (by cases k <;> decide), Bool.true_and]

/-- SET_NOTICES of a set of the twelve kinds gives the issuing port's pacer its set and interval. -/
theorem Offers.setNotices {s : State} {p : Port} {r : Request} {rest : List Request}
    (ho : Offers s p .setNotices r rest) (named : natAt r.payload 0 2 < 4096) :
    exec (.setNotices p) s = .next (({ s.granted p rest with ports := (s.granted p rest).ports.modify p fun b =>
      { b with pacer := (s.port p).pacer.configure (BitVec.ofNat 12 (natAt r.payload 0 2)) (natAt r.payload 2 1) } }
        ).answered p r .ok (be 2 (natAt r.payload 0 2) ++ be 1 (min (natAt r.payload 2 1) 200))) := by
  refine ho.answers none rfl ((if_pos named).trans ?_) rfl rfl rfl
  refine congrArg (·, _) ?_
  cases p <;> rfl

/-- Settles O33: the set is in range or not, and the new pacer is its case of R185's last row. -/
theorem setNoticesMovesEnablesAndLine : Obligations.SetNoticesMovesEnablesAndLine := by
  intro s p r rest ho set interval g pc pending done
  have due : pc.due = true ↔ pending := by
    simp only [pc.due_iff_mem, pc, getLsbD_kind]
    rfl
  have idle : pc.due = false ↔ ¬pending := by rw [← due, Bool.not_eq_true]
  obtain ⟨onDue, onIdle, offDue, offStays⟩ := Pacer.configure_spec (pc := (s.port p).pacer) (fresh := pc) rfl
  rw [due] at onDue offDue
  rw [idle] at onIdle offStays
  refine ⟨fun high => ?_, fun named => ?_⟩
  · exact ho.answers none rfl (if_neg (Nat.not_lt.2 high)) rfl rfl rfl
  · rw [ho.setNotices named]
    refine ⟨fun on pend => ?_, fun on none => ?_, fun off stopped pend => ?_, fun off stays => ?_⟩
    · rw [onDue on pend]
    · rw [onIdle on none]
    · rw [offDue off stopped pend]
      rfl
    · rw [offStays off stays]

end Sys2Proof.Machine
end

section
/-! The snapshot and what a restore reads of it (R187 to R191, R198): each reader of a record takes back what the writer
of the same figure gave. -/

namespace Sys2Proof.Machine

/-! ### Figures (chapter 11) -/

/-- The lowest `n` bytes of a number spell its remainder. -/
theorem fromBe_be (n v : Nat) : fromBe (be n v) = v % 256 ^ n := by
  have after : ∀ a, (be n v).foldl (fun a b => a * 256 + b.toNat) a = a * 256 ^ n + v % 256 ^ n := by
    induction n with
    | zero => simp [be, Nat.mod_one]
    | succ n ih =>
      intro a
      rw [be, List.foldl_cons, ih, BitVec.toNat_ofNat, pow_succ 256 n,
        Nat.mod_mul (x := v) (a := 256 ^ n)]
      ring
  simpa [fromBe] using after 0

theorem readNat_be {n v : Nat} (h : v < 256 ^ n) (rest : List Byte) : readNat n (be n v ++ rest) = some (v, rest) := by
  unfold readNat
  rw [List.take_left' (be_length n v), List.drop_left' (be_length n v), fromBe_be, Nat.mod_eq_of_lt h,
    if_pos (by simp [be_length])]

/-- A signed figure that `n` bytes hold in two's complement. -/
theorem fromBeInt_beInt {n : Nat} {v : Int} (low : -(256 ^ n : Nat) ≤ 2 * v) (high : 2 * v < (256 ^ n : Nat)) :
    fromBeInt (beInt n v) = v := by
  have positive : 0 < 256 ^ n := by positivity
  unfold fromBeInt beInt
  rw [be_length, fromBe_be]
  generalize 256 ^ n = m at *
  obtain sign | sign := Int.lt_or_le v 0
  · have wraps : v % (m : Int) = v + m := by
      rw [← Int.add_emod_right, Int.emod_eq_of_lt (by omega) (by omega)]
    rw [wraps, Nat.mod_eq_of_lt (by omega), if_neg (by omega)]
    omega
  · rw [Int.emod_eq_of_lt sign (by omega), Nat.mod_eq_of_lt (by omega), if_pos (by omega)]
    omega

theorem readInt_beInt {n : Nat} {v : Int} (low : -(256 ^ n : Nat) ≤ 2 * v) (high : 2 * v < (256 ^ n : Nat))
    (rest : List Byte) : readInt n (beInt n v ++ rest) = some (v, rest) := by
  have length : (beInt n v).length = n := be_length n _
  unfold readInt
  rw [List.take_left' length, List.drop_left' length, fromBeInt_beInt low high, if_pos (by simp [length])]

theorem readOptional_present {n : Nat} {x : Option Nat} (h : ∀ v ∈ x, v < 256 ^ n) (rest : List Byte) :
    readOptional x.isSome n (present x (be n) ++ rest) = some (x, rest) := by
  cases x with
  | none => rfl
  | some v => simp [readOptional, present, readNat_be (h v rfl)]

/-- A time is a figure of four bytes. -/
theorem readNat_clock (c : Clock) (rest : List Byte) : readNat 4 (be 4 c.toNat ++ rest) = some (c.toNat, rest) :=
  readNat_be c.isLt rest

/-! ### Flags (R197) -/

/-- The flags in the order of their bits. -/
def Flags.bits (f : Flags) : Fin 9 → Bool :=
  ![f.unweighed, f.rough, f.sat, f.nopitch, f.slow, f.reweighed, f.uncal, f.merged, f.residue]

theorem Flags.toNat_eq_ofBits (f : Flags) : f.toNat = Nat.ofBits f.bits := by
  have bit (b : Bool) (n : Nat) : flagBit b n = 2 ^ n * b.toNat := by cases b <;> simp [flagBit]
  simp only [Flags.toNat, bit, Nat.ofBits, Fin.foldr_succ, Fin.foldr_zero]
  simp only [Flags.bits, Matrix.cons_val_zero, Matrix.cons_val_succ]
  omega

theorem Flags.toNat_lt (f : Flags) : f.toNat < 512 := f.toNat_eq_ofBits ▸ Nat.ofBits_lt_two_pow f.bits

theorem Flags.testBit_toNat (f : Flags) (i : Fin 9) : f.toNat.testBit i = f.bits i := by
  rw [f.toNat_eq_ofBits, Nat.testBit_ofBits_lt f.bits i i.isLt]

theorem Flags.ofNat_toNat (f : Flags) : Flags.ofNat f.toNat = f := by
  have bit := f.testBit_toNat
  unfold Flags.ofNat
  congr 1
  exacts [bit 0, bit 1, bit 2, bit 3, bit 4, bit 5, bit 6, bit 7, bit 8]

/-! ### A pass entry (R98, R198) -/

/-- A pass entry as a record carries it. -/
def Pass.raw (p : Pass) : RawPass where
  index := p.index
  net := p.net
  fill := p.fill
  flags := p.flags.toNat
  cycleTime := p.cycleTime
  commitTime := p.commitTime.toNat
  residue := p.residue

theorem Pass.toPass_raw (p : Pass) : p.raw.toPass = p := by
  simp [Pass.raw, RawPass.toPass, Flags.ofNat_toNat]

theorem Pass.bytes_of_lawful {p : Pass} (h : p.lawful) :
    p.bytes = be 1 p.index ++ be 2 p.net ++ be 1 p.fill ++ be 2 p.flags.toNat ++ be 2 p.cycleTime ++
      be 4 p.commitTime.toNat ++ present p.residue (be 2) := by
  obtain ⟨_, _, _, flagged, _⟩ := h
  unfold Pass.bytes
  rw [flagged]
  cases p.residue <;> rfl

/-- Bit 8 of the flags says whether a residue is sent (R197). -/
theorem Pass.lawful.testBit_flags {p : Pass} (h : p.lawful) : p.flags.toNat.testBit 8 = p.residue.isSome := by
  obtain ⟨_, _, _, flagged, _⟩ := h
  exact (p.flags.testBit_toNat 8).trans flagged

theorem readPass_bytes {p : Pass} (h : p.lawful) (index : p.index < 256) (rest : List Byte) :
    readPass (p.bytes ++ rest) = some (p.raw, rest) := by
  rw [Pass.bytes_of_lawful h]
  have bit := h.testBit_flags
  obtain ⟨net, fill, time, _, residue⟩ := h
  have flags := p.flags.toNat_lt
  have fits : ∀ v ∈ p.residue, v < 256 ^ 2 := by
    intro v hv
    rw [hv, Option.getD_some] at residue
    omega
  simp [readPass, Pass.raw, readNat_be (n := 1) index, readNat_be (n := 2) (v := p.net) (by omega),
    readNat_be (n := 1) (v := p.fill) (by omega), readNat_be (n := 2) (v := p.flags.toNat) (by omega),
    readNat_be (n := 2) (v := p.cycleTime) (Nat.lt_succ_of_le time), readNat_clock, bit, readOptional_present fits]

theorem readPasses_bytes {ps : List Pass} (h : ∀ p ∈ ps, p.lawful ∧ p.index < 256) (rest : List Byte) :
    readPasses ps.length (ps.flatMap Pass.bytes ++ rest) = some (ps.map Pass.raw, rest) := by
  induction ps with
  | nil => rfl
  | cons p ps ih =>
    obtain ⟨⟨lawful, index⟩, others⟩ := List.forall_mem_cons.1 h
    simp [readPasses, readPass_bytes lawful index, ih others]

/-- A pass stands at the place that its index names (R98). -/
theorem passesInOrder.index_getElem {ps : List Pass} (h : passesInOrder ps) {i : Nat} (hi : i < ps.length) :
    ps[i].index = i + 1 := by
  have place := congrArg (fun l => l[i]?) h.numbered
  simpa [hi, List.getElem?_range', Nat.add_comm] using place

theorem passesInOrder.index_lt {ps : List Pass} (h : passesInOrder ps) : ∀ p ∈ ps, p.index < 256 := by
  intro p hp
  obtain ⟨i, hi, rfl⟩ := List.mem_iff_getElem.1 hp
  have length := h.length
  rw [h.index_getElem hi]
  omega

/-- A lawful pass passes V5 at the place that its index names (R189). -/
theorem Pass.lawful.raw_ok {p : Pass} (h : p.lawful) {place : Nat} (index : p.index = place + 1) :
    p.raw.ok place = true := by
  have bit := h.testBit_flags
  obtain ⟨net, fill, _, _, residue⟩ := h
  simp only [RawPass.ok, Bool.and_eq_true, Bool.or_eq_true, decide_eq_true_eq, beq_iff_eq]
  exact ⟨⟨⟨⟨⟨net, index⟩, fill⟩, p.flags.toNat_lt⟩, bit⟩, residue⟩

/-! ### A bay record (R96 to R99, R198) -/

theorem bayStateOf_code (st : BayState) : bayStateOf st.code = some st := by cases st <;> rfl

/-- A bay as a record carries it: its reference is left out (R187). -/
def Bay.raw (b : Bay) : RawBay where
  state := b.state.code
  load := b.load
  tag := b.tag
  material := b.material.val
  target := b.target
  max := b.max
  opened := b.opened.toNat
  total := b.total
  passes := b.passes.map Pass.raw

theorem Bay.toPass_raw_passes (b : Bay) : b.raw.passes.map RawPass.toPass = b.passes := by
  simp [Bay.raw, Function.comp_def, Pass.toPass_raw]

theorem BayState.code_eq_zero {st : BayState} : st.code = 0 ↔ st = .empty := by cases st <;> decide

/-- A restore takes back the bay, with the reference that its tag looks up (R190, R191). -/
theorem Bay.toBay_raw (b : Bay) (lookup : Nat → Option TruckRef) :
    b.raw.toBay lookup = { b with ref := if b.state = .empty then none else b.tag.bind lookup } := by
  unfold RawBay.toBay
  rw [b.toPass_raw_passes]
  simp [Bay.raw, bayStateOf_code, BayState.code_eq_zero]

/-- Twelve nets of at most 30,000 kg (R98, R99). -/
theorem Bay.consistent.total_le {b : Bay} (h : b.consistent) : b.total ≤ 360000 := by
  obtain ⟨length, lawful, _⟩ := h.order
  have each : ∀ n ∈ b.passes.map (fun p => p.net), n ≤ 30000 := by
    simp only [List.forall_mem_map]
    exact fun p hp => (lawful p hp).1
  have sum := List.sum_le_card_nsmul _ _ each
  rw [List.length_map, smul_eq_mul] at sum
  rw [h.sum, sumNets]
  omega

theorem Bay.bytes_none (b : Bay) : b.bytes none = be 1 b.state.code ++ be 1 b.tag.isSome.toNat ++ be 4 b.load ++
    present b.tag (be 3) ++ be 1 b.material.val ++ be 2 b.target ++ be 2 b.max ++ be 4 b.opened.toNat ++
      be 4 b.total ++ be 1 b.passes.length ++ b.passes.flatMap Pass.bytes := by
  have presence : presenceByte b.tag.isSome false = be 1 b.tag.isSome.toNat := by cases b.tag <;> rfl
  simp [Bay.bytes, presence, present, counted, be]

theorem readBay_bytes {b : Bay} (h : b.consistent) (load : b.load ≤ max32) (figures : figuresInRange b.target b.max)
    (rest : List Byte) : readBay (b.bytes none ++ rest) = some (b.raw, rest) := by
  obtain ⟨_, ordered, high⟩ := figures
  have total := h.total_le
  have length := h.order.length
  have material := b.material.isLt
  have state : b.state.code < 256 := by cases b.state <;> decide
  have there : b.tag.isSome.toNat.testBit 0 = b.tag.isSome := by cases b.tag.isSome <;> rfl
  have presence : b.tag.isSome.toNat < 256 := Nat.lt_of_le_of_lt b.tag.isSome.toNat_le (by decide)
  have tag : ∀ t ∈ b.tag, t < 256 ^ 3 := fun t ht => Nat.lt_succ_of_le (h.tagged t ht).2
  have passes := readPasses_bytes (fun p hp => ⟨h.order.lawful p hp, h.order.index_lt p hp⟩) rest
  simp only [Bay.bytes_none, readBay, List.append_assoc, Option.bind_eq_bind, Option.bind_some, Option.pure_def,
    readNat_be (n := 1) state, readNat_be (n := 1) presence, readNat_be (n := 4) (Nat.lt_succ_of_le load), there,
    readOptional_present tag, readNat_be (n := 1) (v := b.material.val) (by omega),
    readNat_be (n := 2) (v := b.target) (by omega), readNat_be (n := 2) (v := b.max) (by omega), readNat_clock,
    readNat_be (n := 4) (v := b.total) (by omega), readNat_be (n := 1) (v := b.passes.length) (by omega), passes,
    Bay.raw]

theorem bayStateFor_eq_ready {load : Nat} {passes : List Pass} {total target max : Nat} :
    bayStateFor load passes total target max = .ready ↔ load ≠ 0 ∧ passes = [] := by
  unfold bayStateFor
  split
  · simp_all
  · (repeat' split) <;> simp_all

/-- A bay is without passes exactly while it is EMPTY or READY (R97). -/
theorem Bay.consistent.passes_eq_nil_iff {b : Bay} (h : b.consistent) :
    b.passes = [] ↔ b.state = .empty ∨ b.state = .ready := by
  have ⟨state, _⟩ := h
  have ready : b.state = .ready ↔ b.load ≠ 0 ∧ b.passes = [] := by rw [state, bayStateFor_eq_ready]
  constructor
  · intro bare
    by_cases unloaded : b.load = 0
    · exact .inl (h.empty_iff.2 unloaded)
    · exact .inr (ready.2 ⟨unloaded, bare⟩)
  · rintro (empty | waiting)
    · obtain ⟨_, _, passes, _⟩ := h.unloaded empty
      exact passes
    · exact (ready.1 waiting).2

/-- A bay that keeps its law passes V3 (R189). -/
theorem Bay.consistent.raw_shapeOk {b : Bay} (h : b.consistent) : b.raw.shapeOk = true := by
  have bare := h.passes_eq_nil_iff
  have length := h.order.length
  unfold RawBay.shapeOk
  simp only [Bay.raw, bayStateOf_code, List.isEmpty_map, List.length_map]
  cases state : b.state <;> simp_all

/-- A bay that keeps its law passes V4 (R189). -/
theorem Bay.consistent.raw_loadOk {b : Bay} (h : b.consistent) : b.raw.loadOk = true := by
  have tag : b.tag ≠ some 0 := fun zero => absurd (h.tagged 0 zero).1 (by decide)
  simp only [RawBay.loadOk, Bay.raw, BayState.code_eq_zero, Bool.and_eq_true, bne_iff_ne]
  refine ⟨?_, tag⟩
  split
  case isTrue empty =>
    obtain ⟨tag, _, _, opened⟩ := h.unloaded empty
    simp [h.empty_iff.1 empty, tag, opened]
  case isFalse held => exact bne_iff_ne.2 (mt h.empty_iff.2 held)

/-- A bay that keeps its law passes V5 (R189). -/
theorem Bay.consistent.raw_passesOk {b : Bay} (h : b.consistent) : b.raw.passesOk = true := by
  have ⟨state, _⟩ := h
  have nets : b.raw.passes.map (fun p => p.net) = b.passes.map fun p => p.net := by
    simp [Bay.raw, Pass.raw, Function.comp_def]
  simp only [RawBay.passesOk, Bool.and_eq_true, beq_iff_eq, List.all_eq_true, b.toPass_raw_passes, nets]
  refine ⟨⟨fun x hx => ?_, h.sum⟩, (bayStateOf_code _).trans (congrArg some state)⟩
  obtain ⟨hi, same⟩ := List.mem_zipIdx' (x := x.1) (i := x.2) hx
  simp only [Bay.raw, List.length_map, List.getElem_map] at hi same
  rw [same]
  exact (h.order.lawful _ (List.getElem_mem hi)).raw_ok (h.order.index_getElem hi)

/-- A bay that keeps its law passes V3 to V6 (R189). -/
theorem Bay.consistent.raw_checked {b : Bay} (h : b.consistent) (figures : figuresInRange b.target b.max) :
    b.raw.checked where
  shape := h.raw_shapeOk
  load := h.raw_loadOk
  passes := h.raw_passesOk
  figures := by
    obtain ⟨low, ordered, high⟩ := figures
    simp [RawBay.figuresOk, Bay.raw, low, ordered, high]

/-! ### The record (R187, R198) -/

/-- A snapshot's record, as its bytes carry it. -/
def State.raw (s : State) : RawSnapshot where
  clock := s.clock.toNat
  number := s.shift.number
  start := s.shift.start.toNat
  counters := s.shift.counters
  minVsys := s.shift.minVsys
  nextLoad := s.bays.nextLoad
  trim := s.weigh.zeroTrim
  active := s.bays.active.code
  left := (s.bay .left).raw
  right := (s.bay .right).raw

theorem readCounters_bytes {c : Counters} (h : c.bounded) (rest : List Byte) :
    readCounters (c.bytes ++ rest) = some (c, rest) := by
  obtain ⟨cycles, truckPasses, pileDumps, payloadKg, cycleTimeSum, reweighs, residues, unweighed, lostCycles,
    loadsClosed⟩ := h
  have word {v : Nat} (h : v ≤ max32) (rest : List Byte) := readNat_be (n := 4) (Nat.lt_succ_of_le h) rest
  have half {v : Nat} (h : v ≤ max16) (rest : List Byte) := readNat_be (n := 2) (Nat.lt_succ_of_le h) rest
  simp only [readCounters, Counters.bytes, List.append_assoc, Option.bind_eq_bind, Option.bind_some, Option.pure_def,
    word cycles, word truckPasses, word pileDumps, word payloadKg, word cycleTimeSum, half reweighs, half residues,
    half unweighed, half lostCycles, half loadsClosed]

/-- The laws under which a part's snapshot is a record that a restore takes. -/
structure SnapshotLaws (s : State) : Prop where
  bays : BayLaw s
  figures : FiguresLaw s
  numbers : NumberLaw s
  counters : CounterLaw s
  trim : ZeroTrimLaw s
  supply : SupplyLaw s

theorem snapshotLaws_reset : SnapshotLaws State.reset :=
  ⟨reset_bayLaw, reset_figuresLaw, reset_numberLaw, reset_counterLaw, reset_zeroTrimLaw, reset_supplyLaw⟩

section
variable {s : State} (h : SnapshotLaws s)
include h

theorem SnapshotLaws.consistent (d : Side) : (s.bay d).consistent := by
  obtain ⟨left, right, _⟩ := h.bays
  cases d <;> assumption

theorem SnapshotLaws.inRange (d : Side) : figuresInRange (s.bay d).target (s.bay d).max :=
  ((figuresLaw_iff s).1 h.figures).1 d

theorem SnapshotLaws.below_next (d : Side) : (s.bay d).load < s.bays.nextLoad := by
  obtain ⟨_, ⟨left, _⟩, ⟨right, _⟩, _⟩ := h.numbers
  cases d <;> assumption

theorem SnapshotLaws.nextLoad_le : s.bays.nextLoad ≤ max32 := by
  obtain ⟨_, _, _, _, next, _⟩ := h.bays
  exact next

theorem SnapshotLaws.readSide (d : Side) (rest : List Byte) :
    readBay ((s.bay d).bytes none ++ rest) = some ((s.bay d).raw, rest) :=
  readBay_bytes (h.consistent d) ((h.below_next d).le.trans h.nextLoad_le) (h.inRange d) rest

/-- The figures of a snapshot, from its clock to its last pass, are read back (R198). -/
theorem SnapshotLaws.readSnapshot_body : readSnapshot (s.snapshotBody.drop 1) = some (s.raw, []) := by
  obtain ⟨_, _, counters, _, number⟩ := h.counters
  obtain ⟨low, high, _⟩ := h.trim
  obtain ⟨_, _, _, _, _, _, supply⟩ := h.supply
  have right := h.readSide .right []
  rw [List.append_nil] at right
  have active : s.bays.active.code < 256 := by cases s.bays.active <;> decide
  simp only [State.snapshotBody, List.cons_append, List.drop_succ_cons, List.drop_zero, readSnapshot,
    List.append_assoc, Option.bind_eq_bind, Option.bind_some, Option.pure_def, readNat_clock,
    readNat_be (n := 2) (Nat.lt_succ_of_le number), readCounters_bytes counters,
    readNat_be (n := 2) (v := s.shift.minVsys) (by omega), readNat_be (n := 4) (Nat.lt_succ_of_le h.nextLoad_le),
    readInt_beInt (n := 2) (v := s.weigh.zeroTrim) (by omega) (by omega), readNat_be (n := 1) active,
    h.readSide .left, right, State.raw]

/-- The check word is that of the bytes before it (V2 of R189). -/
theorem SnapshotLaws.framed_snapshot : framed s.snapshot = some s.raw := by
  have length : s.snapshot.length - 2 = s.snapshotBody.length := by simp [State.snapshot, be_length]
  have body : s.snapshot.take s.snapshotBody.length = s.snapshotBody := List.take_left' rfl
  have check : s.snapshot.drop s.snapshotBody.length = be 2 (crc16 s.snapshotBody).toNat := List.drop_left' rfl
  unfold framed
  dsimp only
  rw [length, body, check, h.readSnapshot_body]
  exact if_pos ((fromBe_be _ _).trans (Nat.mod_eq_of_lt (crc16 s.snapshotBody).isLt))

/-- The two bays hold no tag in common (R104): an EMPTY one holds none. -/
theorem SnapshotLaws.tags_differ :
    (s.bay .left).tag = none ∨ (s.bay .left).tag ≠ (s.bay .right).tag := by
  obtain ⟨_, _, differ, _⟩ := h.bays
  by_cases emptyL : (s.bay .left).state = .empty
  · exact .inl ((h.consistent .left).unloaded emptyL).1
  · by_cases emptyR : (s.bay .right).state = .empty
    · rw [((h.consistent .right).unloaded emptyR).1]
      exact Classical.em _
    · exact Classical.or_iff_not_imp_left.2 fun tagged => differ emptyL emptyR (Option.isSome_iff_ne_none.2 tagged)

/-- The load numbers of the two bays are distinct (R100): an EMPTY one holds none. -/
theorem SnapshotLaws.loads_differ :
    ((s.bay .left).state = .empty ∨ (s.bay .right).state = .empty) ∨ (s.bay .left).load ≠ (s.bay .right).load := by
  obtain ⟨distinct, _⟩ := h.numbers
  by_cases loaded : (s.bay .left).load = 0
  · exact .inl (.inl ((h.consistent .left).empty_iff.2 loaded))
  · exact .inr (distinct loaded)

/-- The load numbers and tags pass V7 (R189). -/
theorem SnapshotLaws.raw_numbersOk : s.raw.numbersOk = true := by
  obtain ⟨_, _, _, positive, _⟩ := h.bays
  simp only [RawSnapshot.numbersOk, Bool.and_eq_true, Bool.or_eq_true, bne_iff_ne, beq_iff_eq, decide_eq_true_eq,
    Option.isNone_iff_eq_none]
  have states := h.loads_differ
  rw [← BayState.code_eq_zero, ← BayState.code_eq_zero] at states
  exact ⟨⟨⟨⟨Nat.one_le_iff_ne_zero.1 positive, states⟩, .inr (h.below_next .left)⟩,
    .inr (h.below_next .right)⟩, h.tags_differ⟩

/-- The counters pass V8 while the cycle count has not saturated (R153, R189). -/
theorem SnapshotLaws.raw_countersOk
    (fits : s.shift.counters.truckPasses + s.shift.counters.pileDumps ≤ max32) : s.raw.countersOk = true := by
  obtain ⟨cycles, unweighed, _⟩ := h.counters
  rw [Nat.min_eq_left fits] at cycles
  simp [RawSnapshot.countersOk, State.raw, cycles, unweighed]

/-- The rest passes V9 (R189). -/
theorem SnapshotLaws.raw_restOk : s.raw.restOk = true := by
  obtain ⟨low, high, _⟩ := h.trim
  obtain ⟨_, _, _, number, _⟩ := h.counters
  obtain ⟨_, _, _, _, _, _, supply⟩ := h.supply
  simp [RawSnapshot.restOk, State.raw, low, high, supply, sideOf_code, Nat.one_le_iff_ne_zero.1 number]

end

/-- A record that passes each of V3 to V9 fails none of them. -/
theorem RawSnapshot.failing_eq_none {r : RawSnapshot} (left : r.left.checked) (right : r.right.checked)
    (numbers : r.numbersOk = true) (counters : r.countersOk = true) (rest : r.restOk = true) : r.failing = none := by
  simp [RawSnapshot.failing, left.shape, left.load, left.passes, left.figures, right.shape, right.load, right.passes,
    right.figures, numbers, counters, rest]

/-- A snapshot passes V1 to V9 (R187, R189). -/
theorem SnapshotLaws.checkSnapshot_snapshot {s : State} (h : SnapshotLaws s)
    (fits : s.shift.counters.truckPasses + s.shift.counters.pileDumps ≤ max32) :
    checkSnapshot s.snapshot = .ok s.raw := by
  have version : natAt s.snapshot 0 1 = 2 := rfl
  have passes : s.raw.failing = none :=
    RawSnapshot.failing_eq_none ((h.consistent .left).raw_checked (h.inRange .left))
      ((h.consistent .right).raw_checked (h.inRange .right)) h.raw_numbersOk (h.raw_countersOk fits) h.raw_restOk
  unfold checkSnapshot
  rw [if_pos version, h.framed_snapshot]
  simp only [passes]

/-- Settles O60: the readers take back what the snapshot wrote, which passes V1 to V9, and a restore of those figures is
the part they came from. -/
theorem snapshotRestoresWhatItTook : Obligations.SnapshotRestoresWhatItTook := by
  intro s bays figures numbers counters trim supply fits
  have laws : SnapshotLaws s := ⟨bays, figures, numbers, counters, trim, supply⟩
  refine ⟨s.raw, laws.checkSnapshot_snapshot fits, fun t => ⟨fun d => ?_, ?_, ?_, rfl, rfl, ?_⟩⟩
  · cases d <;> exact Bay.toBay_raw _ _
  · exact congrArg (Option.getD · _) (sideOf_code _)
  · simp [State.restore, State.raw]
  · simp [State.restore, restoredClock, State.raw, BitVec.lt_def]

end Sys2Proof.Machine
end

section
/-! The step, one equation per shape of the queue: the command in front runs on the rest, and an empty queue idles. -/

namespace Sys2Proof.Machine

/-- The command in front of the queue leaves it and runs on what stands behind it. -/
theorem step_of_pending_cons {c : Instr} {rest : List Instr} {s : State} (front : s.pending = c :: rest) :
    step s = exec c { s with pending := rest } := by
  unfold step
  rw [front]

/-- With no command waiting the block idles (notes/assumptions/3.md). -/
theorem step_of_pending_nil {s : State} (empty : s.pending = []) : step s = .next s := by
  unfold step
  rw [empty]

/-- Settles O1: the two shapes of the queue are the two branches of the step. -/
theorem stepTakesFrontCommand : Obligations.StepTakesFrontCommand :=
  ⟨fun _ _ _ => step_of_pending_cons, fun _ => step_of_pending_nil⟩

end Sys2Proof.Machine
end
